-- ==== Sys2Proof/Word.lean ====
section
/-! DEFINITION. The widths of the exchange's data: bytes and operand words as hosts see them on a link, and the
index types of its tables, whose bounds are the manual's "Sizes at a glance" (00_scope.md). -/

namespace Sys2Proof

/-- A byte on a link, or a data byte of a cell. -/
abbrev Byte := BitVec 8

/-- A 16-bit field of a frame: a key, a tag, a sequence, an operand, a last value. -/
abbrev Word16 := BitVec 16

/-- Hosts and links, numbered 0 to 3. -/
abbrev HostId := Fin 4

/-- Cells of the pool, numbered 0 to 511 (R1). -/
abbrev CellId := Fin 512

/-- Message records M0 to M127 (R13). -/
abbrev MsgId := Fin 128

/-- Channel slots C0 to C31 (R23). -/
abbrev ChanId := Fin 32

/-- Subscription records S0 to S63 (R42). -/
abbrev SubId := Fin 64

/-- Delivery entries E0 to E255 (R85). -/
abbrev EntryId := Fin 256

/-- A table of a fixed number of records, or a register kept once for each host. -/
abbrev Table (α : Type) (n : Nat) := Vector α n

/-- A set of hosts: four flags, one for each host (00_scope.md, "Sets of hosts"). -/
abbrev HostSet := Table Bool 4

/-- The four hosts in ascending number. -/
def allHosts : List HostId := [0, 1, 2, 3]

end Sys2Proof
end

