-- ==== Sys2Proof/Syntax.lean ====
section
/-! DEFINITION. The commands of the exchange: one constructor for each row of spec/opcode_table.json.

A command is one event at the part's pins or timers. A request's operands are no operands of its command: they come
in the bytes of the request header, which the framer holds (R131, R137), so a command that ends a transaction names
the link alone. A byte that arrives, and the byte that completes a header, are operands (notes/assumptions/3.md). -/

namespace Sys2Proof

inductive Instr where
  /-- DEVICE_RESET (R165): power-on, or assertion of RESET. -/
  | deviceReset
  /-- SEL_ASSERTED (R129): the select line of link `h` is asserted. -/
  | selAsserted (h : HostId)
  /-- HEADER_GOOD_CHECK (R134): the 12th header byte, `b`, arrives on link `h` and its check is good. -/
  | headerGoodCheck (h : HostId) (b : Byte)
  /-- HEADER_BAD_CHECK (R133): the 12th header byte, `b`, arrives on link `h` and its check is bad. -/
  | headerBadCheck (h : HostId) (b : Byte)
  /-- DESELECT_IN_DISCARD (R139): SEL of link `h` is deasserted while the framer is in DISCARD. -/
  | deselectInDiscard (h : HostId)
  /-- TRANSACTION_VOID (R138): SEL of link `h` is deasserted before the transaction is complete. -/
  | transactionVoid (h : HostId)
  /-- UNKNOWN_REQUEST (R134): SEL of link `h` is deasserted on a complete transaction whose kind code names no request. -/
  | unknownRequest (h : HostId)
  /-- JOIN (R149): SEL of link `h` is deasserted on a complete JOIN. -/
  | join (h : HostId)
  /-- LEAVE (R153): SEL of link `h` is deasserted on a complete LEAVE. -/
  | leave (h : HostId)
  /-- SET_LEASE_PERIOD (R158): SEL of link `h` is deasserted on a complete SET of the lease period. -/
  | setLeasePeriod (h : HostId)
  /-- SET_ATTENTION_MASK (R158): the same, of the attention mask. -/
  | setAttentionMask (h : HostId)
  /-- SET_CREDIT_THRESHOLD (R158): the same, of the credit threshold. -/
  | setCreditThreshold (h : HostId)
  /-- SET_RESERVE_THRESHOLD (R158): the same, of the reserve threshold. -/
  | setReserveThreshold (h : HostId)
  /-- SET_TURN_WINDOW (R158): the same, of the turn window. -/
  | setTurnWindow (h : HostId)
  /-- SET_VOTE_WINDOW (R158): the same, of the vote window. -/
  | setVoteWindow (h : HostId)
  /-- SET_PRECEDENCE (R158): the same, of the precedence parameter. -/
  | setPrecedence (h : HostId)
  /-- SET_QUOTA_CEILING (R158): the same, of the quota ceiling. -/
  | setQuotaCeiling (h : HostId)
  /-- GET (R159): the 12th header byte, `b`, of a GET arrives on link `h` with a good check. -/
  | get (h : HostId) (b : Byte)
  /-- VOTE_CLEAR (R161): SEL of link `h` is deasserted on a complete VOTE_CLEAR. -/
  | voteClear (h : HostId)
  /-- ACK (R176): SEL of link `h` is deasserted on a complete ACK. -/
  | ack (h : HostId)
  /-- FETCH_NOTICE (R171): the 12th header byte, `b`, of a FETCH_NOTICE arrives on link `h` with a good check. -/
  | fetchNotice (h : HostId) (b : Byte)
  /-- FETCH_NOTICE_COMMIT (R172): SEL of link `h` is deasserted on a complete FETCH_NOTICE. -/
  | fetchNoticeCommit (h : HostId)
  /-- READ_COUNTER (R180): the 12th header byte, `b`, of a READ_COUNTER arrives on link `h` with a good check. -/
  | readCounter (h : HostId) (b : Byte)
  /-- READ_COUNTER_COMMIT (R180): SEL of link `h` is deasserted on a complete READ_COUNTER. -/
  | readCounterCommit (h : HostId)
  /-- OPEN_CHANNEL (R32): SEL of link `h` is deasserted on a complete OPEN_CHANNEL. -/
  | openChannel (h : HostId)
  /-- CLOSE_CHANNEL (R34): SEL of link `h` is deasserted on a complete CLOSE_CHANNEL. -/
  | closeChannel (h : HostId)
  /-- FIND_CHANNEL (R40): the 12th header byte, `b`, of a FIND_CHANNEL arrives on link `h` with a good check. -/
  | findChannel (h : HostId) (b : Byte)
  /-- SUBSCRIBE (R46): SEL of link `h` is deasserted on a complete SUBSCRIBE. -/
  | subscribe (h : HostId)
  /-- UNSUBSCRIBE (R48): SEL of link `h` is deasserted on a complete UNSUBSCRIBE. -/
  | unsubscribe (h : HostId)
  /-- SUSPEND (R51): SEL of link `h` is deasserted on a complete SUSPEND. -/
  | suspend (h : HostId)
  /-- RESUME (R52): SEL of link `h` is deasserted on a complete RESUME. -/
  | resume (h : HostId)
  /-- BEGIN (R62): SEL of link `h` is deasserted on a complete BEGIN. -/
  | begin (h : HostId)
  /-- PUT (R67): SEL of link `h` is deasserted on a complete PUT. -/
  | put (h : HostId)
  /-- SEAL (R73): SEL of link `h` is deasserted on a complete SEAL. -/
  | sealMsg (h : HostId)
  /-- ABORT (R79): SEL of link `h` is deasserted on a complete ABORT. -/
  | abort (h : HostId)
  /-- TAKE (R96): the 12th header byte, `b`, of a TAKE arrives on link `h` with a good check. -/
  | take (h : HostId) (b : Byte)
  /-- TAKE_COMMIT (R100): SEL of link `h` is deasserted on a complete TAKE. -/
  | takeCommit (h : HostId)
  /-- SKIP (R105): SEL of link `h` is deasserted on a complete SKIP. -/
  | skip (h : HostId)
  /-- LEASE_EXPIRY (R152): the millisecond time has reached the lease deadline of host `h`. -/
  | leaseExpiry (h : HostId)
  /-- TURN_EXPIRY (R119): the millisecond time has reached the turn's deadline. -/
  | turnExpiry
  /-- VOTE_DEADLINE (R162): the millisecond time has reached the deadline of the open vote. -/
  | voteDeadline
  /-- HEADER_BYTE_ARRIVAL (R131): a header byte, `b`, before the 12th arrives on link `h`. -/
  | headerByteArrival (h : HostId) (b : Byte)
  /-- PAYLOAD_BYTE_ARRIVAL (R136): a byte, `b`, arrives on link `h` after the header of a request with no response. -/
  | payloadByteArrival (h : HostId) (b : Byte)
  /-- RESPONSE_BYTE_ARRIVAL (R136): one byte is clocked on link `h` after the header of a read kind; what stands on SDI is ignored. -/
  | responseByteArrival (h : HostId)
  /-- SELECT_SEEN (R129): SEL of link `h` is deasserted while its framer is IDLE. -/
  | selectSeen (h : HostId)
  /-- RESET_RELEASE (R165): RESET is deasserted. -/
  | resetRelease
  /-- MILLISECOND_TIME_STEP (R188): one millisecond passes on CLKIN. -/
  | millisecondTimeStep
  /-- GET_COMMIT (R137): SEL of link `h` is deasserted on a complete GET. -/
  | getCommit (h : HostId)
  /-- FIND_CHANNEL_COMMIT (R137): SEL of link `h` is deasserted on a complete FIND_CHANNEL. -/
  | findChannelCommit (h : HostId)
  /-- SET_READ_ONLY_VALUE (R158): SEL of link `h` is deasserted on a complete SET whose operand A names a read-only value or no identifier. -/
  | setReadOnlyValue (h : HostId)
  deriving DecidableEq, Repr

end Sys2Proof
end

