-- ==== Sys2Proof/Decode.lean ====
section
/-! DEFINITION. The command a table word spells.

No row of spec/opcode_table.json gives bits (its rows carry no "fixed" and no "fields"): a command is an event at the
pins, not a word. The request header, which does have an encoding, is decoded in Machine/Operands.lean. -/

namespace Sys2Proof

/-- The command spelled by the `nbits` bits of `w`: none, since no row of the table gives bits. -/
def decodeTableWord (_nbits _w : Nat) : Option Instr := none

end Sys2Proof
end

