-- ==== Sys2Proof/Config.lean ====
section
/-! DEFINITION. What is fixed for the part: its sizes, as the manual gives them, and the one value the manual leaves
open, a constant without a body. -/

namespace Sys2Proof.Config

/-- Data bytes of a cell (R1). -/
def cellBytes : Nat := 64

/-- The longest message, in bytes (R7, R30). -/
def maxMessage : Nat := 2048

/-- The most data bytes of one PUT or one TAKE (R61, R96). -/
def maxPiece : Nat := 64

/-- The largest limit of a subscription (R42). -/
def maxLimit : Nat := 64

/-- Records a notice queue holds (R168). -/
def noticeQueueSize : Nat := 16

/-- The bound at which a lost count saturates (R168). -/
def maxLost : Nat := 255

/-- The fixed rationing hysteresis, in cells (R109). -/
def hysteresis : Nat := 16

/-- Bytes of a request header, and of a status block (R129, R131). -/
def headerBytes : Nat := 12

/-- FREE VALUE (notes/assumptions/2.md). The byte a link drives on SDO while SEL is asserted and the framer is IDLE,
as when SEL was held asserted through a device reset: SDO is driven while SEL is asserted (R127) and no rule says with
what when no transaction is open. It takes the host number and the millisecond time. Nothing is known of it. -/
opaque sdoWithoutTransaction : Nat → Nat → Byte

end Sys2Proof.Config
end

