-- ==== Sys2Proof/Machine/State.lean ====
section
/-! DEFINITION. The state of the exchange: every table, record, flag, counter, parameter and pin the manual names, as
plain data, the queue of waiting commands, and the machine right after reset. -/

namespace Sys2Proof.Machine

/-! ## Cells and messages (chapter 1) -/

/-- The record of a cell (R1). Its data bytes stand in `State.pool`. -/
structure CellRec where
  /-- The cell that follows in the chain; absent for the last of a chain and for a free cell. -/
  next : Option CellId
  /-- How many of the cell's data bytes belong to a message, 0 to 64. -/
  used : Nat
  deriving DecidableEq, Repr

/-- A cell on the free list (R1). -/
def CellRec.free : CellRec := { next := none, used := 0 }

/-- What the Cell Pool keeps for one host (R8, R9, R11). Its credit is computed from these (R10). -/
structure Account where
  quota : Nat
  charge : Nat
  /-- The exhausted mark (R11). -/
  exhausted : Bool
  deriving DecidableEq, Repr

/-- When the deliveries of a channel's messages are created (R23); `none` is the code 0 of a CLOSED slot or a VACANT
record. -/
inductive Mode where
  | none | whole | streaming
  deriving DecidableEq, Repr

/-- The states of a message record (R14). -/
inductive MsgState where
  | vacant | filling | sealed | aborted
  deriving DecidableEq, Repr

/-- A message record (R13). -/
structure Message where
  state : MsgState
  channel : ChanId
  /-- The channel's key at BEGIN. -/
  key : Word16
  publisher : HostId
  tag : Word16
  mode : Mode
  sequence : Word16
  declared : Option Nat
  length : Nat
  head : Option CellId
  tail : Option CellId
  cellCount : Nat
  refCount : Nat
  deriving DecidableEq, Repr

/-- A VACANT record: optional fields absent, every other field 0 (R13). -/
def Message.vacant : Message :=
  { state := .vacant, channel := 0, key := 0, publisher := 0, tag := 0, mode := .none, sequence := 0,
    declared := none, length := 0, head := none, tail := none, cellCount := 0, refCount := 0 }

/-! ## Channels and subscriptions (chapters 2 and 3) -/

/-- The states of a channel slot (R24). -/
inductive ChanState where
  | closed | opened | draining
  deriving DecidableEq, Repr

/-- A channel record (R23). -/
structure Channel where
  state : ChanState
  key : Word16
  creator : Option HostId
  mode : Mode
  maxLength : Nat
  publishSet : HostSet
  nextSequence : Word16
  liveCount : Nat
  subscriberCount : Nat
  deriving DecidableEq, Repr

/-- The empty set of hosts. -/
def noHosts : HostSet := Vector.replicate 4 false

/-- A CLOSED slot (R23). -/
def Channel.closed : Channel :=
  { state := .closed, key := 0, creator := none, mode := .none, maxLength := 0, publishSet := noHosts,
    nextSequence := 0, liveCount := 0, subscriberCount := 0 }

/-- The states of a subscription record (R43). -/
inductive SubState where
  | free | active | suspended
  deriving DecidableEq, Repr

/-- What the Delivery Unit does at a subscription's limit (R42); `none` is the code 0 of a FREE record. -/
inductive Policy where
  | none | dropNew | dropOldest
  deriving DecidableEq, Repr

/-- A subscription record (R42). -/
structure Subscription where
  state : SubState
  owner : HostId
  channel : ChanId
  matchBits : Word16
  mask : Word16
  limit : Nat
  policy : Policy
  own : Bool
  queued : Nat
  deriving DecidableEq, Repr

/-- A FREE record (R42). -/
def Subscription.free : Subscription :=
  { state := .free, owner := 0, channel := 0, matchBits := 0, mask := 0, limit := 0, policy := .none, own := false,
    queued := 0 }

/-! ## Delivery entries (chapter 5) -/

/-- The states of an entry (R88). -/
inductive EntryState where
  | queued | opened
  deriving DecidableEq, Repr

/-- A delivery entry (R85). -/
structure Entry where
  inUse : Bool
  message : MsgId
  subscription : Option SubId
  offset : Nat
  state : EntryState
  deriving DecidableEq, Repr

/-- A free entry (R85). Its message field is consulted by nothing; the model holds M0 there. -/
def Entry.free : Entry := { inUse := false, message := 0, subscription := none, offset := 0, state := .queued }

/-! ## The turn and the vote (chapters 6 and 8) -/

/-- State, holder and deadline of the turn record: holder and deadline are present in GRANTED and IN_USE and absent
in NONE (R113). -/
inductive Turn where
  | none
  | granted (holder : HostId) (deadline : Nat)
  | inUse (holder : HostId) (deadline : Nat)
  deriving DecidableEq, Repr

/-- An open clear vote (R160). A closed one is `none` in `State.vote`: no voters, opener or deadline. -/
structure Vote where
  voters : HostSet
  opener : HostId
  deadline : Nat
  deriving DecidableEq, Repr

/-! ## Hosts and parameters (chapter 8) -/

/-- The states of a host (R147). -/
inductive Membership where
  | detached | joined | lapsed
  deriving DecidableEq, Repr

/-- The five flags of an attention mask; a set flag masks its cause (R147). -/
structure Mask where
  delivery : Bool
  notice : Bool
  credit : Bool
  turn : Bool
  linkError : Bool
  deriving DecidableEq, Repr

/-- No cause masked. -/
def Mask.clear : Mask := { delivery := false, notice := false, credit := false, turn := false, linkError := false }

/-- A host record (R147). -/
structure Member where
  state : Membership
  leasePeriod : Nat
  leaseDeadline : Option Nat
  creditThreshold : Nat
  mask : Mask
  deriving DecidableEq, Repr

/-- A host record after device reset (R147). -/
def Member.reset : Member :=
  { state := .detached, leasePeriod := 0, leaseDeadline := none, creditThreshold := 1, mask := Mask.clear }

/-- The exchange-wide parameters (R157). -/
structure Params where
  reserveThreshold : Nat
  turnWindow : Nat
  voteWindow : Nat
  /-- Set: the lowest-numbered claimant is granted. Clear: round robin (R118). -/
  precedence : Bool
  quotaCeiling : Nat
  deriving DecidableEq, Repr

/-- The defaults (R157). -/
def Params.default : Params :=
  { reserveThreshold := 32, turnWindow := 20, voteWindow := 500, precedence := false, quotaCeiling := 256 }

/-! ## Notices, latches and counters (chapter 9) -/

/-- Why a delivery was dropped (R94, R186). -/
inductive DropReason where
  | limit | displaced | pool
  deriving DecidableEq, Repr

/-- A queued notice (R167): its kind and the fields that kind carries. The reason of MESSAGE_ABORTED is always
CHANNEL_CLOSING. The lost count is supplied when the notice is fetched. -/
inductive Notice where
  | dropped (carrier : SubId) (key sequence tag : Word16) (reason : DropReason)
  | hostJoined (subject : HostId)
  | hostLeft (subject : HostId)
  | hostLapsed (subject : HostId)
  | messageAborted (key sequence : Word16)
  | channelClosed (key : Word16) (subscription : SubId)
  | voteOpened (opener : HostId)
  | voteFailed
  | exchangeCleared
  | turnMissed
  deriving DecidableEq, Repr

/-- The six attention causes (R174). -/
inductive Cause where
  | delivery | notice | credit | turn | linkError | ready
  deriving DecidableEq, Repr

/-- The six attention latches of a host (R174). -/
structure Latches where
  delivery : Bool
  notice : Bool
  credit : Bool
  turn : Bool
  linkError : Bool
  ready : Bool
  deriving DecidableEq, Repr

/-- No cause latched. -/
def Latches.clear : Latches :=
  { delivery := false, notice := false, credit := false, turn := false, linkError := false, ready := false }

/-- The counters of a host, each in its width, and the byte-counter high latch (R178, R181). -/
structure Counters where
  published : BitVec 32
  bytes : BitVec 40
  taken : BitVec 32
  dropped : BitVec 32
  aborted : BitVec 32
  linkErrors : BitVec 16
  highLatch : Byte
  deriving DecidableEq, Repr

/-- Every counter and the high latch at 0 (R179). -/
def Counters.zero : Counters :=
  { published := 0, bytes := 0, taken := 0, dropped := 0, aborted := 0, linkErrors := 0, highLatch := 0 }

/-- What the Notice Unit keeps for one host. -/
structure Desk where
  /-- The notice queue, head first. -/
  notices : List Notice
  lost : Nat
  latches : Latches
  counters : Counters
  deriving DecidableEq, Repr

/-- Empty queue, lost count 0, counters 0, READY latched: what device reset and an accepted JOIN leave (R149, R165). -/
def Desk.ready : Desk :=
  { notices := [], lost := 0, latches := { Latches.clear with ready := true }, counters := Counters.zero }

/-! ## Links (chapter 7) -/

/-- The states of a framer (R128). -/
inductive Phase where
  | idle | header | payloadIn | responseOut | discard
  deriving DecidableEq, Repr

/-- The results a status block reports (R140). -/
inductive ResultCode where
  | noRequest | ok | empty | wait | void
  | notJoined | badRequest | badKey | badIndex | noChannel | channelExists | busy | notPermitted | tableFull
  | length | noRecord | noMessage | noCell
  deriving DecidableEq, Repr

/-- The two link faults, and none (R141). -/
inductive LinkFault where
  | none | check | framing
  deriving DecidableEq, Repr

/-- The counters READ_COUNTER names (R180, R187). -/
inductive CounterId where
  | published | bytesLow | bytesHigh | taken | dropped | aborted | linkErrors
  deriving DecidableEq, Repr

/-- The outcomes of a TAKE (R97, R185). -/
inductive TakeOutcome where
  | refused | empty | data | stalled | aborted
  deriving DecidableEq, Repr

/-- What a read kind keeps from its header for its commit (R135). -/
inductive Commit where
  /-- Nothing to commit: FIND_CHANNEL, GET, a refused read, an EMPTY TAKE. -/
  | nothing
  /-- A TAKE on an entry: the outcome, the data count, whether LAST was carried, and whether this header opened it. -/
  | take (entry : EntryId) (outcome : TakeOutcome) (count : Nat) (last : Bool) (openedHere : Bool)
  /-- A FETCH_NOTICE: whether a record was reported, and the reported lost count. -/
  | fetchNotice (reported : Option Notice) (lost : Nat)
  /-- A READ_COUNTER: which counter, and the captured value. -/
  | readCounter (counter : CounterId) (captured : BitVec 40)
  deriving DecidableEq, Repr

/-- The pending result of a read kind (R128, R135). -/
structure PendingResult where
  /-- The response bytes, up to 76. -/
  response : List Byte
  result : ResultCode
  value : Word16
  commit : Commit
  deriving DecidableEq, Repr

/-- One link: the level of its SEL pin, and its framer (R128). -/
structure Link where
  /-- The SEL pin: set while the host asserts it. -/
  sel : Bool
  phase : Phase
  header : List Byte
  /-- The CRC-8 register of the header being received (R132). -/
  crc : Byte
  remaining : Nat
  statusCopy : List Byte
  payload : List Byte
  pendingResult : Option PendingResult
  voidMark : Bool
  selectSeen : Bool
  lastResult : ResultCode
  lastSerial : Byte
  lastValue : Word16
  lastFault : LinkFault
  faultSerial : Byte
  deriving DecidableEq, Repr

/-- A framer after a device reset that ended with SEL deasserted (R128). The status copy, for which no reset value is
given, holds twelve zeros (notes/assumptions/5.md). -/
def Link.reset : Link :=
  { sel := false, phase := .idle, header := [], crc := 0, remaining := 0, statusCopy := List.replicate 12 0,
    payload := [], pendingResult := none, voidMark := false, selectSeen := true, lastResult := .noRequest,
    lastSerial := 0, lastValue := 0, lastFault := .none, faultSerial := 0 }

/-! ## The whole machine -/

/-- The state of the exchange. -/
structure State where
  /-- The MODEL's queue of waiting commands, first in, first out. -/
  pending : List Instr
  /-- The millisecond time (R188). -/
  now : Nat
  /-- The RESET pin: set while it is asserted (R165). -/
  resetAsserted : Bool
  /-- The data bytes of the pool: byte `i` of cell `c` at address `64 * c + i`. -/
  pool : List Host.Cell
  cells : Table CellRec 512
  /-- The free list, head first (R2). -/
  freeList : List CellId
  accounts : Table Account 4
  messages : Table Message 128
  channels : Table Channel 32
  subs : Table Subscription 64
  entries : Table Entry 256
  /-- The delivery queues, head first (R87). -/
  queues : Table (List EntryId) 4
  /-- The rationed flag (R109). -/
  rationed : Bool
  turn : Turn
  claimants : HostSet
  lastServed : Option HostId
  members : Table Member 4
  params : Params
  vote : Option Vote
  desks : Table Desk 4
  links : Table Link 4
  deriving DecidableEq, Repr

/-- The machine right after a device reset that ended with every SEL deasserted (R165, R188). -/
def State.reset : State :=
  { pending := []
    now := 0
    resetAsserted := false
    pool := []
    cells := Vector.replicate 512 CellRec.free
    freeList := List.finRange 512
    accounts := Vector.replicate 4 { quota := 0, charge := 0, exhausted := false }
    messages := Vector.replicate 128 Message.vacant
    channels := Vector.replicate 32 Channel.closed
    subs := Vector.replicate 64 Subscription.free
    entries := Vector.replicate 256 Entry.free
    queues := Vector.replicate 4 []
    rationed := false
    turn := .none
    claimants := noHosts
    lastServed := none
    members := Vector.replicate 4 Member.reset
    params := Params.default
    vote := none
    desks := Vector.replicate 4 Desk.ready
    links := Vector.replicate 4 Link.reset }

/-- What stops the exchange: nothing does. The manual gives an answer to every request and an effect to every event,
and no meaning faults. -/
inductive Fault where
  deriving DecidableEq, Repr

/-- Why the model answers no next state. -/
inductive Refusal where
  /-- Raised by an arm of `exec` whose command has no meaning yet. Safe: it claims nothing of the machine. -/
  | notModelled (mnemonic : String)
  /-- Raised by every meaning whose command names an event that cannot occur in the state: the pins and framer of the
  link, or the RESET pin, are not as the event requires (a deassertion of a deasserted line, a 12th header byte after
  the 5th, the end of a JOIN on a link that carries a SEAL), or the expiries of the present millisecond have not been
  taken when the next one is to begin (R188). Safe: the machine never meets that command in that state
  (notes/assumptions/4.md). -/
  | notThatEvent
  deriving DecidableEq, Repr

end Sys2Proof.Machine
end

