-- ==== Sys2Proof/Machine/Ops.lean ====
section
/-! DEFINITION. The named operations over tables, sets of hosts, counters and the pool's data bytes, and the one-record
updates of State that every meaning is written with. -/

namespace Sys2Proof

/-! ## Tables and sets of hosts -/

/-- The record at an index. -/
def Table.read {α : Type} {n : Nat} (t : Table α n) (i : Fin n) : α := t[i]

/-- The table with one record replaced. -/
def Table.write {α : Type} {n : Nat} (t : Table α n) (i : Fin n) (a : α) : Table α n := t.set i a

/-- The table with one record changed. -/
def Table.update {α : Type} {n : Nat} (t : Table α n) (i : Fin n) (f : α → α) : Table α n := t.write i (f (t.read i))

/-- The table with every record changed. -/
def Table.mapAll {α : Type} {n : Nat} (t : Table α n) (f : α → α) : Table α n := ⟨⟨t.toList.map f⟩, by simp⟩

/-- The lowest-numbered index whose record passes a test (00_scope.md, "Lowest-numbered"). -/
def Table.lowest {α : Type} {n : Nat} (t : Table α n) (p : α → Bool) : Option (Fin n) :=
  (List.finRange n).find? (fun i => p (t.read i))

/-- The indices whose records pass a test, in ascending order. -/
def Table.indices {α : Type} {n : Nat} (t : Table α n) (p : α → Bool) : List (Fin n) :=
  (List.finRange n).filter (fun i => p (t.read i))

/-- How many records pass a test. -/
def Table.countIf {α : Type} {n : Nat} (t : Table α n) (p : α → Bool) : Nat := (t.indices p).length

/-- The set with one host more. -/
def HostSet.insert (hs : HostSet) (h : HostId) : HostSet := hs.write h true

/-- The set with one host less. -/
def HostSet.erase (hs : HostSet) (h : HostId) : HostSet := hs.write h false

/-- How many hosts the set holds. -/
def HostSet.size (hs : HostSet) : Nat := (allHosts.filter hs.read).length

/-- A set of hosts given as one flag for each, host 0 in bit 0 (R32, R183). -/
def HostSet.ofBits (w : Word16) : HostSet :=
  ⟨⟨[w.getLsbD 0, w.getLsbD 1, w.getLsbD 2, w.getLsbD 3]⟩, rfl⟩

/-! ## Counters (R178) -/

/-- A counter advanced by one, staying at its upper bound. -/
def satIncrement {w : Nat} (c : BitVec w) : BitVec w := if c = BitVec.allOnes w then c else c + 1

/-! ## The pool's data bytes

Byte `i` of cell `c` stands at address `64 * c + i` (R1). The list is in one canonical form: addresses strictly rising,
no entry equal to what an unlisted address reads as. -/

namespace Machine

/-- What a data byte that nothing has written reads as (notes/assumptions/6.md). No message's bytes reach it. -/
def Memory.blank : Byte := 0

/-- The byte at an address. -/
def Memory.read : List Host.Cell → Nat → Byte
  | [], _ => Memory.blank
  | (a, b) :: rest, x => if a = x then b else Memory.read rest x

/-- The entry for one byte in front of a list of higher addresses: none for a byte equal to the blank one. -/
def Memory.cons (x : Nat) (v : Byte) (rest : List Host.Cell) : List Host.Cell :=
  if v = Memory.blank then rest else (x, v) :: rest

/-- The memory after one byte is written. -/
def Memory.write : List Host.Cell → Nat → Byte → List Host.Cell
  | [], x, v => Memory.cons x v []
  | (a, b) :: rest, x, v =>
    if x < a then Memory.cons x v ((a, b) :: rest)
    else if x = a then Memory.cons x v rest
    else (a, b) :: Memory.write rest x v

/-- Every address of the list is above `lo`, the addresses rise, and no entry holds the blank byte. -/
def Memory.risesFrom : Nat → List Host.Cell → Bool
  | _, [] => true
  | lo, (a, b) :: rest => decide (lo ≤ a) && decide (b ≠ Memory.blank) && Memory.risesFrom (a + 1) rest

/-- The canonical form. -/
def Memory.wf (m : List Host.Cell) : Bool := Memory.risesFrom 0 m

/-- The address of a byte of a cell. -/
def Memory.address (c : CellId) (i : Nat) : Nat := Config.cellBytes * c.val + i

/-! ## One-record updates of State -/

/-- Change the account of one host. -/
def State.modAccount (s : State) (h : HostId) (f : Account → Account) : State :=
  { s with accounts := s.accounts.update h f }

/-- Change one cell record. -/
def State.modCell (s : State) (c : CellId) (f : CellRec → CellRec) : State := { s with cells := s.cells.update c f }

/-- Change one message record. -/
def State.modMessage (s : State) (m : MsgId) (f : Message → Message) : State :=
  { s with messages := s.messages.update m f }

/-- Change one channel record. -/
def State.modChannel (s : State) (c : ChanId) (f : Channel → Channel) : State :=
  { s with channels := s.channels.update c f }

/-- Change one subscription record. -/
def State.modSub (s : State) (i : SubId) (f : Subscription → Subscription) : State :=
  { s with subs := s.subs.update i f }

/-- Change one delivery entry. -/
def State.modEntry (s : State) (e : EntryId) (f : Entry → Entry) : State := { s with entries := s.entries.update e f }

/-- Change one delivery queue. -/
def State.modQueue (s : State) (h : HostId) (f : List EntryId → List EntryId) : State :=
  { s with queues := s.queues.update h f }

/-- Change one host record. -/
def State.modMember (s : State) (h : HostId) (f : Member → Member) : State :=
  { s with members := s.members.update h f }

/-- Change what the Notice Unit keeps for one host. -/
def State.modDesk (s : State) (h : HostId) (f : Desk → Desk) : State := { s with desks := s.desks.update h f }

/-- Change one link. -/
def State.modLink (s : State) (h : HostId) (f : Link → Link) : State := { s with links := s.links.update h f }

/-- Change the counters of one host. -/
def State.modCounters (s : State) (h : HostId) (f : Counters → Counters) : State :=
  s.modDesk h (fun d => { d with counters := f d.counters })

/-! ## Values read from State -/

/-- The free count: the length of the free list (R2). -/
def State.freeCount (s : State) : Nat := s.freeList.length

/-- Whether a host is JOINED (R147). -/
def State.isJoined (s : State) (h : HostId) : Bool := (s.members.read h).state == .joined

/-- The set of JOINED hosts. -/
def State.joinedHosts (s : State) : HostSet :=
  ⟨⟨[s.isJoined 0, s.isJoined 1, s.isJoined 2, s.isJoined 3]⟩, rfl⟩

/-- A host's credit: max(0, quota − charge) (R10). -/
def Account.credit (a : Account) : Nat := a.quota - a.charge

/-- A host's credit (R10). -/
def State.credit (s : State) (h : HostId) : Nat := (s.accounts.read h).credit

/-- A host's FILLING message (R60). -/
def State.fillingOf (s : State) (h : HostId) : Option MsgId :=
  s.messages.lowest (fun m => m.state == .filling && m.publisher == h)

/-- The OPEN or DRAINING slot that holds a key; key 0 is held by none (R23, R25). -/
def State.findKey (s : State) (k : Word16) : Option ChanId :=
  if k = 0 then none else s.channels.lowest (fun c => c.state != .closed && c.key == k)

/-- The number of slots OPEN or DRAINING (R41). -/
def State.nonClosed (s : State) : Nat := s.channels.countIf (fun c => c.state != .closed)

/-- The holder of the turn, in GRANTED or IN_USE (R113). -/
def Turn.holder : Turn → Option HostId
  | .none => .none
  | .granted h _ => some h
  | .inUse h _ => some h

/-- The deadline of the turn (R113). -/
def Turn.deadline : Turn → Option Nat
  | .none => .none
  | .granted _ d => some d
  | .inUse _ d => some d

/-- The cells a length needs: ceil(length / 64) (R6). -/
def cellsFor (length : Nat) : Nat := (length + (Config.cellBytes - 1)) / Config.cellBytes

end Machine

end Sys2Proof
end

