-- ==== Sys2Proof/Machine/Flags.lean ====
section
/-! DEFINITION. The attention latches and masks, the ATN output, the notice queues and the counters: what every block
posts to the Notice Unit (chapter 9). -/

namespace Sys2Proof.Machine

/-! ## Latches, masks and ATN -/

/-- The latches with one cause latched; one already latched stays so (R174). -/
def Latches.latch (l : Latches) : Cause → Latches
  | .delivery => { l with delivery := true }
  | .notice => { l with notice := true }
  | .credit => { l with credit := true }
  | .turn => { l with turn := true }
  | .linkError => { l with linkError := true }
  | .ready => { l with ready := true }

/-- One bit of a byte, as a number. -/
def bit (b : Bool) (place : Nat) : Nat := if b then 2 ^ place else 0

/-- The attention-cause arrangement (R184): DELIVERY in bit 0 up to READY in bit 5. -/
def Latches.toNat (l : Latches) : Nat :=
  bit l.delivery 0 + bit l.notice 1 + bit l.credit 2 + bit l.turn 3 + bit l.linkError 4 + bit l.ready 5

/-- The latches left when those named in the attention-cause arrangement are cleared (R176). -/
def Latches.without (l : Latches) (named : Word16) : Latches :=
  { delivery := l.delivery && !named.getLsbD 0
    notice := l.notice && !named.getLsbD 1
    credit := l.credit && !named.getLsbD 2
    turn := l.turn && !named.getLsbD 3
    linkError := l.linkError && !named.getLsbD 4
    ready := l.ready && !named.getLsbD 5 }

/-- A mask in bits 0 to 4 of the attention-cause arrangement (R184). -/
def Mask.toNat (m : Mask) : Nat :=
  bit m.delivery 0 + bit m.notice 1 + bit m.credit 2 + bit m.turn 3 + bit m.linkError 4

/-- The mask a value of SET gives (R184). -/
def Mask.ofBits (w : Word16) : Mask :=
  { delivery := w.getLsbD 0, notice := w.getLsbD 1, credit := w.getLsbD 2, turn := w.getLsbD 3,
    linkError := w.getLsbD 4 }

/-- ATN asserted: READY latched, or another cause latched and not masked (R175). -/
def atnOf (l : Latches) (m : Mask) : Bool :=
  l.ready || (l.delivery && !m.delivery) || (l.notice && !m.notice) || (l.credit && !m.credit)
    || (l.turn && !m.turn) || (l.linkError && !m.linkError)

/-- The ATN pin of a host: asserted or not (R175). Latches and mask hold all it depends on, so it changes in the event
that changes one of them. -/
def State.atn (s : State) (h : HostId) : Bool := atnOf (s.desks.read h).latches (s.members.read h).mask

/-- Latch a cause for a host (R174). -/
def latch (h : HostId) (c : Cause) (s : State) : State :=
  s.modDesk h (fun d => { d with latches := d.latches.latch c })

/-! ## Notices -/

/-- A desk after a notice is posted to its JOINED host (R168). -/
def Desk.post (n : Notice) (d : Desk) : Desk :=
  if d.notices.length < Config.noticeQueueSize then
    { d with notices := d.notices ++ [n], latches := d.latches.latch .notice }
  else
    { d with lost := min (d.lost + 1) Config.maxLost, latches := d.latches.latch .notice }

/-- Post a notice to a host: kept or counted as lost for a JOINED host, discarded for any other (R168). -/
def post (h : HostId) (n : Notice) (s : State) : State :=
  if s.isJoined h then s.modDesk h (Desk.post n) else s

/-- Post a notice to every JOINED host. -/
def postAll (n : Notice) (s : State) : State := allHosts.foldl (fun s h => post h n s) s

/-- Post a notice to every JOINED host but one. -/
def postOthers (h : HostId) (n : Notice) (s : State) : State :=
  (allHosts.filter (· ≠ h)).foldl (fun s g => post g n s) s

/-- Empty a host's notice queue and set its lost count to 0 (R170). -/
def clearNotices (h : HostId) (s : State) : State := s.modDesk h (fun d => { d with notices := [], lost := 0 })

/-- Clear a host's attention latches (R174). -/
def clearLatches (h : HostId) (s : State) : State := s.modDesk h (fun d => { d with latches := Latches.clear })

/-! ## Counters -/

/-- An accepted SEAL of a message: PUBLISHED by one, BYTES by the message's length (R78). -/
def countSeal (h : HostId) (length : Nat) (s : State) : State :=
  s.modCounters h
    (fun c => { c with published := satIncrement c.published, bytes := c.bytes + BitVec.ofNat 40 length })

/-- An abort of a FILLING message (R78). -/
def countAbort (h : HostId) (s : State) : State :=
  s.modCounters h (fun c => { c with aborted := satIncrement c.aborted })

/-- A delivery completed by LAST (R100). -/
def countTaken (h : HostId) (s : State) : State := s.modCounters h (fun c => { c with taken := satIncrement c.taken })

/-- A dropped delivery: the reader's DROPPED counter advances and DROPPED is posted to it (R94). -/
def reportDrop (h : HostId) (n : Notice) (s : State) : State :=
  post h n (s.modCounters h (fun c => { c with dropped := satIncrement c.dropped }))

/-- A link fault: the last link error, LINK_ERROR latched, LINK_ERRORS advanced (R141). -/
def linkFault (h : HostId) (f : LinkFault) (serial : Byte) (s : State) : State :=
  latch h .linkError
    ((s.modLink h (fun l => { l with lastFault := f, faultSerial := serial })).modCounters h
      (fun c => { c with linkErrors := satIncrement c.linkErrors }))

/-- The 40-bit value READ_COUNTER captures (R180, R181). -/
def Counters.capture (c : Counters) : CounterId → BitVec 40
  | .published => c.published.setWidth 40
  | .bytesLow => c.bytes
  | .bytesHigh => c.highLatch.setWidth 40
  | .taken => c.taken.setWidth 40
  | .dropped => c.dropped.setWidth 40
  | .aborted => c.aborted.setWidth 40
  | .linkErrors => c.linkErrors.setWidth 40

/-- The counters after a READ_COUNTER is committed: reduced by the captured value; BYTES_LOW also stores the high part
of it; BYTES_HIGH changes nothing (R180, R181). -/
def Counters.reduce (c : Counters) (captured : BitVec 40) : CounterId → Counters
  | .published => { c with published := c.published - captured.setWidth 32 }
  | .bytesLow => { c with bytes := c.bytes - captured, highLatch := captured.extractLsb' 32 8 }
  | .bytesHigh => c
  | .taken => { c with taken := c.taken - captured.setWidth 32 }
  | .dropped => { c with dropped := c.dropped - captured.setWidth 32 }
  | .aborted => { c with aborted := c.aborted - captured.setWidth 32 }
  | .linkErrors => { c with linkErrors := c.linkErrors - captured.setWidth 16 }

end Sys2Proof.Machine
end

