-- ==== Sys2Proof/Machine/Arbiter.lean ====
section
/-! DEFINITION. The Admission Arbiter: the rationed flag and the turn (chapter 6). -/

namespace Sys2Proof.Machine

/-- Latch TURN for every host of a set. -/
def latchTurns (hs : HostSet) (s : State) : State :=
  (allHosts.filter hs.read).foldl (fun s h => latch h .turn s) s

/-- The end of rationing (R112): TURN latched for a GRANTED holder and for every claimant, the record cleared. The
last-served host stays. -/
def endRationing (s : State) : State :=
  let t := match s.turn with
    | .granted h _ => latch h .turn s
    | _ => s
  { latchTurns t.claimants t with rationed := false, claimants := noHosts, turn := .none }

/-- Judge the rationed flag against the free count, the reserve threshold and the hysteresis (R109), carrying out a
start (R111) or an end (R112) of rationing whole. -/
def reevaluate (s : State) : State :=
  if s.rationed then
    if s.params.reserveThreshold + Config.hysteresis ≤ s.freeCount then endRationing s else s
  else
    if s.freeCount ≤ s.params.reserveThreshold then { s with rationed := true } else s

/-- The order in which hosts are considered for a grant under round robin (R118). -/
def roundRobin : Option HostId → List HostId
  | none => allHosts
  | some l => [l + 1, l + 2, l + 3, l]

/-- The claimant to be granted next, if there is one (R118). -/
def State.nextClaimant (s : State) : Option HostId :=
  (if s.params.precedence then allHosts else roundRobin s.lastServed).find? s.claimants.read

/-- Grant the turn to a host (R118): it leaves the claimant set, and TURN is latched for it. -/
def grantTurn (h : HostId) (s : State) : State :=
  latch h .turn
    { s with turn := .granted h (s.now + s.params.turnWindow), claimants := HostSet.erase s.claimants h }

/-- The end of a turn (R117): the record becomes NONE, and the next claimant, if any, is granted. -/
def endTurn (s : State) : State :=
  match s.nextClaimant with
  | some h => grantTurn h { s with turn := .none }
  | none => { s with turn := .none }

/-- The turn ends if the publisher holds it IN_USE (R77). -/
def endTurnOf (h : HostId) (s : State) : State :=
  match s.turn with
  | .inUse g _ => if g = h then endTurn s else s
  | _ => s

/-- The arbiter's answer to a BEGIN (R114, R115): admitted, or refused WAIT with the host a claimant. -/
def arbitrate (h : HostId) (s : State) : State × Bool :=
  if s.rationed then
    match s.turn with
    | .none => ({ s with turn := .inUse h (s.now + s.params.turnWindow), lastServed := some h }, true)
    | .granted g d =>
      if g = h then ({ s with turn := .inUse h d, lastServed := some h }, true)
      else ({ s with claimants := HostSet.insert s.claimants h }, false)
    | .inUse _ _ => ({ s with claimants := HostSet.insert s.claimants h }, false)
  else (s, true)

/-- A departing host leaves the claimant set, and its turn, if it still holds it, ends (R121, step 4 of R154). -/
def withdraw (h : HostId) (s : State) : State :=
  let t := { s with claimants := HostSet.erase s.claimants h }
  if t.turn.holder = some h then endTurn t else t

end Sys2Proof.Machine
end

