-- ==== Sys2Proof/Machine/Cells.lean ====
section
/-! DEFINITION. The Cell Pool and the Message Table: charge and credit, allocation, the append, reading by offset,
reference counts and the freeing of a message (chapter 1). -/

namespace Sys2Proof.Machine

/-! ## Charge, credit and the exhausted mark -/

/-- Judge a host's exhausted mark on its credit (R11). -/
def judgeMark (h : HostId) (s : State) : State :=
  if (s.accounts.read h).exhausted then
    if s.credit h = 0 then s
    else if (s.members.read h).creditThreshold ≤ s.credit h then
      latch h .credit (s.modAccount h (fun a => { a with exhausted := false }))
    else s
  else if s.credit h = 0 then s.modAccount h (fun a => { a with exhausted := true })
  else s

/-- Set a host's charge; where its credit changes and it is JOINED, its mark is judged (R8, R10, R11). -/
def setCharge (h : HostId) (c : Nat) (s : State) : State :=
  let t := s.modAccount h (fun a => { a with charge := c })
  if t.credit h ≠ s.credit h ∧ s.isJoined h then judgeMark h t else t

/-! ## Chains -/

/-- The cells met from a head by following next cell, at most as many as a count (R5). -/
def walk (cells : Table CellRec 512) : Nat → Option CellId → List CellId
  | 0, _ => []
  | _ + 1, none => []
  | n + 1, some c => c :: walk cells n (cells.read c).next

/-- The chain of a message: the cells that hold its bytes, in order (R5). -/
def State.chainOf (s : State) (m : MsgId) : List CellId :=
  walk s.cells (s.messages.read m).cellCount (s.messages.read m).head

/-- The byte at an offset of a chain (R5). A chain too short for the offset, which no message has, reads as blank. -/
def byteAt (pool : List Host.Cell) (chain : List CellId) (k : Nat) : Byte :=
  match chain[k / Config.cellBytes]? with
  | some c => Memory.read pool (Memory.address c (k % Config.cellBytes))
  | none => Memory.blank

/-- The bytes of a message from an offset on (R5, R98). -/
def State.readBytes (s : State) (m : MsgId) (offset count : Nat) : List Byte :=
  (List.range count).map (fun i => byteAt s.pool (s.chainOf m) (offset + i))

/-! ## Allocation and the append -/

/-- Link the cells of a run to one another, in order (R3). -/
def linkRun : List CellId → State → State
  | a :: b :: rest, s => linkRun (b :: rest) (s.modCell a (fun c => { c with next := some b }))
  | _, s => s

/-- Take `k` cells from the head of the free list, linked in list order; refused as a whole when `k` is above the free
count (R3). -/
def takeCells (k : Nat) (s : State) : Option (List CellId × State) :=
  if k ≤ s.freeCount then
    some (s.freeList.take k, linkRun (s.freeList.take k) { s with freeList := s.freeList.drop k })
  else none

/-- Link a run onto the end of a message's chain: the old tail is full and its next cell is the run's first, which is
the head if the chain was empty; the run's last is the tail (R3, R6). -/
def attachRun (m : MsgId) (run : List CellId) (s : State) : State :=
  match run with
  | [] => s
  | c :: _ =>
    let t := match (s.messages.read m).tail with
      | some old => s.modCell old (fun r => { r with next := some c, used := Config.cellBytes })
      | none => s
    t.modMessage m (fun x =>
      { x with head := some (x.head.getD c), tail := run.getLast?, cellCount := x.cellCount + run.length })

/-- Write bytes from an offset of a chain on (R6). -/
def storeBytes (chain : List CellId) : Nat → List Byte → List Host.Cell → List Host.Cell
  | _, [], pool => pool
  | k, b :: bs, pool =>
    match chain[k / Config.cellBytes]? with
    | some c => storeBytes chain (k + 1) bs (Memory.write pool (Memory.address c (k % Config.cellBytes)) b)
    | none => pool

/-- How many bytes of a message's tail cell are its own, from its length (R1). -/
def tailUsed (length : Nat) : Nat := length - Config.cellBytes * (cellsFor length - 1)

/-- The cells an append of `n` bytes to a message of length `length` needs (R6, R68). -/
def newCells (length n : Nat) : Nat := cellsFor (length + n) - cellsFor length

/-- Take the cells an append needs and charge them to the message's publisher, judging its mark and the rationed flag
(step 1 of R69). -/
def chargeCells (m : MsgId) (k : Nat) (s : State) : State :=
  if k = 0 then s
  else match takeCells k s with
    | none => s
    | some (run, t) =>
      let p := (t.messages.read m).publisher
      attachRun m run (reevaluate (setCharge p ((t.accounts.read p).charge + k) t))

/-- The append of an accepted PUT (R6, R69). -/
def appendBytes (m : MsgId) (bytes : List Byte) (s : State) : State :=
  let length := (s.messages.read m).length
  let t := chargeCells m (newCells length bytes.length) s
  let u := { t with pool := storeBytes (t.chainOf m) length bytes t.pool }
  let v := match (u.messages.read m).tail with
    | some c => u.modCell c (fun r => { r with used := tailUsed (length + bytes.length) })
    | none => u
  v.modMessage m (fun x => { x with length := length + bytes.length })

/-! ## Freeing (R19) -/

/-- Return cells to the tail of the free list, in order, each with a free cell's record (R4). -/
def returnCells (chain : List CellId) (s : State) : State :=
  { chain.foldl (fun s c => s.modCell c (fun _ => CellRec.free)) s with freeList := s.freeList ++ chain }

/-- A channel after one of its messages is freed: one live message less, and CLOSED if that ends a drain (step 4 of
R19, R39). -/
def Channel.lessOne (c : Channel) : Channel :=
  if c.state = .draining ∧ c.liveCount - 1 = 0 then Channel.closed else { c with liveCount := c.liveCount - 1 }

/-- Free a message (R19): its cells return, which the arbiter sees; its publisher's charge falls; the record becomes
VACANT; its channel has one live message less. -/
def freeMessage (m : MsgId) (s : State) : State :=
  let msg := s.messages.read m
  let chain := s.chainOf m
  let t := if chain = [] then s else reevaluate (returnCells chain s)
  let u := setCharge msg.publisher ((t.accounts.read msg.publisher).charge - msg.cellCount) t
  (u.modMessage m (fun _ => Message.vacant)).modChannel msg.channel Channel.lessOne

/-- Lower a message's reference count by one, freeing it at 0: the release of an entry's reference (R18) and the drop
of the publisher's hold (R17). -/
def release (m : MsgId) (s : State) : State :=
  let t := s.modMessage m (fun x => { x with refCount := x.refCount - 1 })
  if (t.messages.read m).refCount = 0 then freeMessage m t else t

/-- The abort of a FILLING message, whatever its cause (R80): a WHOLE one is freed, a STREAMING one becomes ABORTED and
is freed if no entry refers to it; ABORTED advances; a turn the publisher holds IN_USE ends. -/
def abortMessage (m : MsgId) (s : State) : State :=
  let msg := s.messages.read m
  let t := match msg.mode with
    | .streaming => release m (s.modMessage m (fun x => { x with state := .aborted }))
    | _ => release m s
  endTurnOf msg.publisher (countAbort msg.publisher t)

end Sys2Proof.Machine
end

