-- ==== Sys2Proof/Machine/Delivery.lean ====
section
/-! DEFINITION. The Delivery Unit and the Tag Matcher: matching, the creation of deliveries, the removal of entries,
and the freeing of subscriptions (chapters 3 and 5). -/

namespace Sys2Proof.Machine

/-! ## Removing entries and freeing subscriptions -/

/-- Remove an entry from a host's queue: it returns to the pool, its subscription's queued count falls if the field is
present, and its reference is released (R100, R105, R18). -/
def removeEntry (h : HostId) (e : EntryId) (s : State) : State :=
  let entry := s.entries.read e
  let t := (s.modQueue h (fun q => q.erase e)).modEntry e (fun _ => Entry.free)
  let u := match entry.subscription with
    | some i => t.modSub i (fun x => { x with queued := x.queued - 1 })
    | none => t
  release entry.message u

/-- Remove entries one after another, each whole before the next (R20). -/
def removeEntries (h : HostId) (es : List EntryId) (s : State) : State := es.foldl (fun s e => removeEntry h e s) s

/-- An entry after a subscription is freed: a field that named it is absent (R45, R49). -/
def Entry.forget (i : SubId) (e : Entry) : Entry :=
  if e.subscription = some i then { e with subscription := none } else e

/-- Free a subscription as UNSUBSCRIBE without purge does (R49). -/
def freeSubscription (i : SubId) (s : State) : State :=
  let t := { s with entries := s.entries.mapAll (Entry.forget i) }
  (t.modChannel (s.subs.read i).channel (fun c => { c with subscriberCount := c.subscriberCount - 1 })).modSub i
    (fun _ => Subscription.free)

/-- The QUEUED entries of a host's queue that name a subscription, head first (R50, R91). -/
def State.queuedOf (s : State) (h : HostId) (i : SubId) : List EntryId :=
  (s.queues.read h).filter
    (fun e => (s.entries.read e).state == .queued && (s.entries.read e).subscription == some i)

/-! ## Matching -/

/-- The match condition (R55). -/
def Subscription.passes (x : Subscription) (m : Message) : Bool :=
  x.state == .active && x.channel == m.channel && (m.tag &&& x.mask) == (x.matchBits &&& x.mask)
    && (x.owner != m.publisher || x.own)

/-- A host's carrier for a message: the lowest-numbered of its records that match (R57). -/
def State.carrier (s : State) (m : Message) (h : HostId) : Option SubId :=
  s.subs.lowest (fun x => x.owner == h && x.passes m)

/-- The target list of a message: each host with a matching record, in ascending number, with its carrier (R56). -/
def State.targets (s : State) (m : MsgId) : List (HostId × SubId) :=
  allHosts.filterMap (fun h => (s.carrier (s.messages.read m) h).map (fun i => (h, i)))

/-! ## Creating deliveries -/

/-- Append an entry for a message to a reader's queue (R93). -/
def appendEntry (h : HostId) (m : MsgId) (i : SubId) (e : EntryId) (s : State) : State :=
  latch h .delivery
    ((((s.modEntry e (fun _ =>
          { inUse := true, message := m, subscription := some i, offset := 0, state := .queued })).modQueue h
        (fun q => q ++ [e])).modMessage m (fun x => { x with refCount := x.refCount + 1 })).modSub i
      (fun x => { x with queued := x.queued + 1 }))

/-- The DROPPED notice for a message (R90, R91, R92). -/
def dropNotice (i : SubId) (m : Message) (r : DropReason) : Notice := .dropped i m.key m.sequence m.tag r

/-- The number of the free entry that a fresh delivery takes, if there is one (R86). -/
def State.freshEntry (s : State) : Option EntryId := s.entries.lowest (fun e => !e.inUse)

/-- Make room by displacing an entry and append the new delivery in its place (R91). -/
def displace (h : HostId) (m : MsgId) (i : SubId) (e : EntryId) (s : State) : State :=
  let old := s.messages.read (s.entries.read e).message
  appendEntry h m i e (reportDrop h (dropNotice i old .displaced) (removeEntry h e s))

/-- One host's delivery or drop of a message, by its carrier's limit and policy and by the entry pool (R89). -/
def deliver (m : MsgId) (h : HostId) (i : SubId) (s : State) : State :=
  let x := s.subs.read i
  let msg := s.messages.read m
  if x.queued < x.limit then
    match s.freshEntry with
    | some e => appendEntry h m i e s
    | none => reportDrop h (dropNotice i msg .pool) s
  else
    match x.policy, (s.queuedOf h i).head? with
    | .dropOldest, some e => displace h m i e s
    | _, _ => reportDrop h (dropNotice i msg .limit) s

/-- Create the deliveries of a message at its matching moment, host by host in ascending number (R56, R89). -/
def createDeliveries (m : MsgId) (s : State) : State :=
  (s.targets m).foldl (fun s t => deliver m t.1 t.2 s) s

end Sys2Proof.Machine
end

