-- ==== Sys2Proof/Machine/Operands.lean ====
section
/-! DEFINITION. Frames: the header and its check, request kinds and coded operands, and the byte layouts of the status
block and the responses (chapter 10, with R130 to R132). -/

namespace Sys2Proof.Machine

/-! ## The check (R132) -/

/-- One shift of the CRC-8 register, generator x^8 + x^2 + x + 1. -/
def crcShift (r : Byte) : Byte := if r.msb then (r <<< 1) ^^^ 0x07 else r <<< 1

/-- The register after one byte more. -/
def crcByte (r b : Byte) : Byte :=
  crcShift (crcShift (crcShift (crcShift (crcShift (crcShift (crcShift (crcShift (r ^^^ b))))))))

/-- The register after a run of bytes, from 0. -/
def crc8 (bs : List Byte) : Byte := bs.foldl crcByte 0

/-! ## Request kinds (R183) -/

/-- The requests a kind code can name. -/
inductive Kind where
  | join | leave | set | get | voteClear | ack | fetchNotice | readCounter
  | openChannel | closeChannel | findChannel | subscribe | unsubscribe | suspend | resume
  | begin | put | sealMsg | abort | take | skip
  deriving DecidableEq, Repr

/-- The kind a code names; none for a code that names no request. -/
def Kind.ofCode (c : Byte) : Option Kind :=
  match c.toNat with
  | 0x11 => some .join
  | 0x12 => some .leave
  | 0x13 => some .set
  | 0x14 => some .get
  | 0x15 => some .voteClear
  | 0x18 => some .ack
  | 0x19 => some .fetchNotice
  | 0x1A => some .readCounter
  | 0x21 => some .openChannel
  | 0x22 => some .closeChannel
  | 0x23 => some .findChannel
  | 0x31 => some .subscribe
  | 0x32 => some .unsubscribe
  | 0x33 => some .suspend
  | 0x34 => some .resume
  | 0x41 => some .begin
  | 0x42 => some .put
  | 0x43 => some .sealMsg
  | 0x44 => some .abort
  | 0x51 => some .take
  | 0x52 => some .skip
  | _ => none

/-- The read kinds, whose result is returned in the same transaction (R135). -/
def Kind.isRead : Kind → Bool
  | .take | .fetchNotice | .findChannel | .get | .readCounter => true
  | _ => false

/-! ## Identifiers of SET and GET, and counters (R187) -/

/-- The identifiers SET and GET share. -/
inductive Ident where
  | leasePeriod | attentionMask | creditThreshold
  | reserveThreshold | turnWindow | voteWindow | precedence | quotaCeiling
  | freeCells | freeRecords | freeEntries | freeSubscriptions | nonClosedChannels | hostStates | lastLinkError
  | interfaceRevision
  deriving DecidableEq, Repr

/-- The identifier a code names; none for a code that names none. -/
def Ident.ofCode (a : Word16) : Option Ident :=
  match a.toNat with
  | 0x01 => some .leasePeriod
  | 0x02 => some .attentionMask
  | 0x03 => some .creditThreshold
  | 0x10 => some .reserveThreshold
  | 0x11 => some .turnWindow
  | 0x12 => some .voteWindow
  | 0x13 => some .precedence
  | 0x14 => some .quotaCeiling
  | 0x20 => some .freeCells
  | 0x21 => some .freeRecords
  | 0x22 => some .freeEntries
  | 0x23 => some .freeSubscriptions
  | 0x24 => some .nonClosedChannels
  | 0x25 => some .hostStates
  | 0x26 => some .lastLinkError
  | 0x27 => some .interfaceRevision
  | _ => none

/-- Whether an identifier names a parameter, which SET may write. -/
def Ident.isParameter : Ident → Bool
  | .leasePeriod | .attentionMask | .creditThreshold | .reserveThreshold | .turnWindow | .voteWindow | .precedence
  | .quotaCeiling => true
  | _ => false

/-- The counter a code names; none for a code that names none. -/
def CounterId.ofCode (a : Word16) : Option CounterId :=
  match a.toNat with
  | 0x01 => some .published
  | 0x02 => some .bytesLow
  | 0x03 => some .bytesHigh
  | 0x04 => some .taken
  | 0x05 => some .dropped
  | 0x06 => some .aborted
  | 0x07 => some .linkErrors
  | _ => none

/-- The channel mode operand C of OPEN_CHANNEL names (R183). -/
def Mode.ofCode (c : Word16) : Option Mode :=
  if c = 1 then some .whole else if c = 2 then some .streaming else Option.none

/-- The policy bits 1 and 0 of operand D of SUBSCRIBE name (R183). -/
def Policy.ofBits (d : Byte) : Option Policy :=
  if d.extractLsb' 0 2 = 1 then some .dropNew
  else if d.extractLsb' 0 2 = 2 then some .dropOldest
  else Option.none

/-! ## The request header (R131, R183) -/

/-- Two bytes of a frame as one field, most significant first. -/
def wordOf (hi lo : Byte) : Word16 := hi ++ lo

/-- A decoded request header. -/
structure Request where
  code : Byte
  serial : Byte
  key : Word16
  a : Word16
  b : Word16
  c : Word16
  d : Byte
  deriving DecidableEq, Repr

/-- The fields of header bytes 0 to 10. -/
def Request.ofHeader (bs : List Byte) : Request :=
  { code := bs.getD 0 0
    serial := bs.getD 1 0
    key := wordOf (bs.getD 2 0) (bs.getD 3 0)
    a := wordOf (bs.getD 4 0) (bs.getD 5 0)
    b := wordOf (bs.getD 6 0) (bs.getD 7 0)
    c := wordOf (bs.getD 8 0) (bs.getD 9 0)
    d := bs.getD 10 0 }

/-- The kind a request's code names. -/
def Request.kind (r : Request) : Option Kind := Kind.ofCode r.code

/-- The request a link's header holds. -/
def Link.request (l : Link) : Request := Request.ofHeader l.header

/-- The serial byte of a link's header, or 0 if byte 1 has not arrived (R138). -/
def Link.serial (l : Link) : Byte := l.header.getD 1 0

/-! ## Codes and fields of the frames the exchange sends -/

/-- A 16-bit field, most significant byte first. -/
def bytes16 (w : Word16) : List Byte := [w.extractLsb' 8 8, w.extractLsb' 0 8]

/-- A 32-bit value, most significant byte first. -/
def bytes32 (w : BitVec 32) : List Byte :=
  [w.extractLsb' 24 8, w.extractLsb' 16 8, w.extractLsb' 8 8, w.extractLsb' 0 8]

/-- A number as one byte. -/
def byteOf (n : Nat) : Byte := BitVec.ofNat 8 n

/-- A number as a 16-bit field. -/
def word (n : Nat) : Word16 := BitVec.ofNat 16 n

/-- The link-state coding (R184). -/
def Membership.code : Membership → Nat
  | .detached => 0
  | .joined => 1
  | .lapsed => 2

/-- The result codes (R184). -/
def ResultCode.code : ResultCode → Byte
  | .noRequest => 0x00
  | .ok => 0x01
  | .empty => 0x02
  | .wait => 0x03
  | .void => 0x04
  | .notJoined => 0x10
  | .badRequest => 0x11
  | .badKey => 0x12
  | .badIndex => 0x13
  | .noChannel => 0x14
  | .channelExists => 0x15
  | .busy => 0x16
  | .notPermitted => 0x17
  | .tableFull => 0x18
  | .length => 0x19
  | .noRecord => 0x1A
  | .noMessage => 0x1B
  | .noCell => 0x1C

/-- The mode codes (R187). -/
def Mode.code : Mode → Nat
  | .none => 0
  | .whole => 1
  | .streaming => 2

/-- The channel state codes (R187). -/
def ChanState.code : ChanState → Nat
  | .closed => 0
  | .opened => 1
  | .draining => 2

/-- The outcome codes of a take descriptor (R185). -/
def TakeOutcome.code : TakeOutcome → Nat
  | .refused => 0
  | .empty => 1
  | .data => 2
  | .stalled => 3
  | .aborted => 4

/-- The drop reason codes (R186). -/
def DropReason.code : DropReason → Nat
  | .limit => 1
  | .displaced => 2
  | .pool => 3

/-- The reason code of CHANNEL_CLOSING (R186). -/
def channelClosingCode : Nat := 4

/-- The link error codes of GET (R187). -/
def LinkFault.code : LinkFault → Nat
  | .none => 0
  | .check => 1
  | .framing => 2

/-! ## The status block (R130, R184) -/

/-- The status block of a link, as the values stand. -/
def State.statusBlock (s : State) (h : HostId) : List Byte :=
  let desk := s.desks.read h
  let l := s.links.read h
  [ byteOf ((s.members.read h).state.code + bit s.rationed 2 + bit (s.turn.holder == some h) 3 + bit s.vote.isSome 4),
    byteOf desk.latches.toNat,
    byteOf (min (s.queues.read h).length 255),
    byteOf desk.notices.length ]
    ++ bytes16 (word (s.credit h)) ++ bytes16 (word s.freeCount)
    ++ [l.lastResult.code, l.lastSerial] ++ bytes16 l.lastValue

/-! ## The take descriptor (R99, R185) -/

/-- What a take descriptor gives. -/
structure Descriptor where
  outcome : TakeOutcome
  first : Bool
  last : Bool
  unknown : Bool
  publisher : HostId
  count : Nat
  key : Word16
  sequence : Word16
  tag : Word16
  offset : Nat
  length : Nat
  deriving DecidableEq, Repr

/-- A descriptor with every field 0 beside its outcome. -/
def Descriptor.blank (o : TakeOutcome) : Descriptor :=
  { outcome := o, first := false, last := false, unknown := false, publisher := 0, count := 0, key := 0, sequence := 0,
    tag := 0, offset := 0, length := 0 }

/-- The twelve bytes of a descriptor. -/
def Descriptor.bytes (d : Descriptor) : List Byte :=
  [byteOf (d.outcome.code + bit d.first 3 + bit d.last 4 + bit d.unknown 5 + 64 * d.publisher.val), byteOf d.count]
    ++ bytes16 d.key ++ bytes16 d.sequence ++ bytes16 d.tag ++ bytes16 (word d.offset) ++ bytes16 (word d.length)

/-! ## The notice record (R167, R186) -/

/-- The twelve bytes of a notice record, from its kind, presence flags and fields. -/
def noticeBytes (kind flags lost subject reason index : Nat) (key sequence tag : Word16) : List Byte :=
  [byteOf kind, byteOf flags, byteOf lost, byteOf subject, byteOf reason, byteOf index]
    ++ bytes16 key ++ bytes16 sequence ++ bytes16 tag

/-- The record a FETCH_NOTICE returns: the head notice, or NONE, with the lost count. The presence flags are fixed by
the kind. -/
def noticeRecord : Option Notice → Nat → List Byte
  | none, lost => noticeBytes 0 0 lost 0 0 0 0 0 0
  | some (.dropped i key seq tag r), lost => noticeBytes 1 0b111110 lost 0 r.code i.val key seq tag
  | some (.hostJoined h), lost => noticeBytes 2 0b000001 lost h.val 0 0 0 0 0
  | some (.hostLeft h), lost => noticeBytes 3 0b000001 lost h.val 0 0 0 0 0
  | some (.hostLapsed h), lost => noticeBytes 4 0b000001 lost h.val 0 0 0 0 0
  | some (.messageAborted key seq), lost => noticeBytes 5 0b011010 lost 0 channelClosingCode 0 key seq 0
  | some (.channelClosed key i), lost => noticeBytes 6 0b001100 lost 0 0 i.val key 0 0
  | some (.voteOpened h), lost => noticeBytes 7 0b000001 lost h.val 0 0 0 0 0
  | some .voteFailed, lost => noticeBytes 8 0 lost 0 0 0 0 0 0
  | some .exchangeCleared, lost => noticeBytes 9 0 lost 0 0 0 0 0 0
  | some .turnMissed, lost => noticeBytes 10 0 lost 0 0 0 0 0 0

/-! ## Channel information (R40, R187) -/

/-- The eight bytes for a slot; eight zeros where no channel is found. -/
def State.channelInfo (s : State) : Option ChanId → List Byte
  | none => List.replicate 8 0
  | some i =>
    let c := s.channels.read i
    let creator := match c.creator with
      | some h => 16 + 32 * h.val
      | none => 0
    [byteOf (c.state.code + 4 * c.mode.code + creator), byteOf i.val]
      ++ bytes16 (word c.maxLength) ++ [byteOf c.subscriberCount, byteOf c.liveCount] ++ bytes16 c.nextSequence

/-! ## GET values (R159, R187) -/

/-- The value of an identifier, for a requesting host. -/
def State.value (s : State) (h : HostId) : Ident → Nat
  | .leasePeriod => (s.members.read h).leasePeriod
  | .attentionMask => (s.members.read h).mask.toNat
  | .creditThreshold => (s.members.read h).creditThreshold
  | .reserveThreshold => s.params.reserveThreshold
  | .turnWindow => s.params.turnWindow
  | .voteWindow => s.params.voteWindow
  | .precedence => bit s.params.precedence 0
  | .quotaCeiling => s.params.quotaCeiling
  | .freeCells => s.freeCount
  | .freeRecords => s.messages.countIf (fun m => m.state == .vacant)
  | .freeEntries => s.entries.countIf (fun e => !e.inUse)
  | .freeSubscriptions => s.subs.countIf (fun x => x.state == .free)
  | .nonClosedChannels => s.nonClosed
  | .hostStates =>
    (s.members.read 0).state.code + 4 * (s.members.read 1).state.code + 16 * (s.members.read 2).state.code
      + 64 * (s.members.read 3).state.code
  | .lastLinkError => 256 * (s.links.read h).lastFault.code + (s.links.read h).faultSerial.toNat
  | .interfaceRevision => 1

/-- The 32-bit value READ_COUNTER returns for what it captured (R180, R181). -/
def counterValue (captured : BitVec 40) : BitVec 32 := captured.setWidth 32

end Sys2Proof.Machine
end

