-- ==== Sys2Proof/Machine/Members.lean ====
section
/-! DEFINITION. The Membership Unit: leases, the voiding of transactions by an event, the teardown of a host, the clear
vote and the exchange clear (chapter 8). -/

namespace Sys2Proof.Machine

/-! ## Leases -/

/-- The deadline a lease period gives: absent for a period of 0 (R149, R151). -/
def leaseDeadlineOf (now period : Nat) : Option Nat := if period = 0 then none else some (now + period)

/-- A good header renews the lease of a JOINED host with a period above 0 (R151). -/
def renewLease (h : HostId) (s : State) : State :=
  if s.isJoined h ∧ (s.members.read h).leasePeriod ≠ 0 then
    s.modMember h (fun x => { x with leaseDeadline := some (s.now + x.leasePeriod) })
  else s

/-! ## Voiding by an event (R139) -/

/-- Whether a framer has a transaction in flight that an event can void. -/
def Phase.inFlight : Phase → Bool
  | .header | .payloadIn | .responseOut => true
  | _ => false

/-- A link after a teardown or an exchange clear: a transaction in flight is void, and its framer is in DISCARD (R139). -/
def Link.voidByEvent (l : Link) : Link :=
  if l.phase.inFlight then
    { l with phase := .discard, payload := [], pendingResult := none, voidMark := true, lastResult := .void,
             lastSerial := l.serial, lastValue := 0 }
  else l

/-! ## The exchange clear (R163) -/

/-- The tables empty, as an exchange clear and a device reset leave them (R21, R31, R54, R107). The data bytes of the
pool keep what was last written into them (R1). -/
def clearTables (s : State) : State :=
  { s with
    cells := Vector.replicate 512 CellRec.free
    freeList := List.finRange 512
    accounts := s.accounts.mapAll (fun a => { a with charge := 0, exhausted := false })
    messages := Vector.replicate 128 Message.vacant
    channels := Vector.replicate 32 Channel.closed
    subs := Vector.replicate 64 Subscription.free
    entries := Vector.replicate 256 Entry.free
    queues := Vector.replicate 4 [] }

/-- A host's desk emptied by an exchange clear: counters, latches, notices and lost count (steps 5 and 6 of R163). -/
def Desk.empty : Desk := { notices := [], lost := 0, latches := Latches.clear, counters := Counters.zero }

/-- The exchange clear (R163), in the order of its steps. DEDUCED (log 15): step 4 voids every transaction in flight, a
complete JOIN whose deselect has not been taken among them (R139, R145). The JOIN that R150 and R162 say is judged against
the cleared exchange is then one whose SEL is asserted after the clear. -/
def exchangeClear (s : State) : State :=
  let t := reevaluate { clearTables s with turn := .none, claimants := noHosts, lastServed := none }
  let u := { t with vote := none, links := t.links.mapAll Link.voidByEvent, desks := t.desks.mapAll (fun _ => Desk.empty) }
  (allHosts.filter u.isJoined).foldl (fun s h => latch h .ready (post h .exchangeCleared s)) u

/-! ## The clear vote (R162) -/

/-- Judge an open vote against its voter set and the JOINED hosts (R162). -/
def judgeVote (s : State) : State :=
  match s.vote with
  | none => s
  | some v =>
    if v.voters = noHosts then postAll .voteFailed { s with vote := none }
    else if v.voters = s.joinedHosts then exchangeClear { s with vote := none }
    else s

/-! ## Teardown (R154) -/

/-- Free the subscriptions of a departing host, in ascending index order (step 1 of R154). -/
def freeSubscriptionsOf (h : HostId) (s : State) : State :=
  (s.subs.indices (fun x => x.state != .free && x.owner == h)).foldl (fun s i => freeSubscription i s) s

/-- Abort a departing host's FILLING message, if it has one (step 3 of R154). -/
def abortFillingOf (h : HostId) (s : State) : State :=
  match s.fillingOf h with
  | some m => abortMessage m s
  | none => s

/-- A channel after the teardown of a host: its creator is absent if it was that host (R29). -/
def Channel.disown (h : HostId) (c : Channel) : Channel :=
  if c.state ≠ .closed ∧ c.creator = some h then { c with creator := none } else c

/-- A departing host's vote is removed and the vote is judged (step 10 of R154). -/
def withdrawVote (h : HostId) (s : State) : State :=
  judgeVote { s with vote := s.vote.map (fun v => { v with voters := HostSet.erase v.voters h }) }

/-- Steps 1 to 9 of R154: everything the departing host had is removed and its state becomes final. -/
def dismantle (h : HostId) (final : Membership) (s : State) : State :=
  let t := freeSubscriptionsOf h s
  let t := removeEntries h (t.queues.read h) t
  let t := withdraw h (abortFillingOf h t)
  let t := { t with channels := t.channels.mapAll (Channel.disown h) }
  let t := clearLatches h (clearNotices h t)
  let t := t.modLink h Link.voidByEvent
  (t.modMember h (fun x => { x with state := final, leaseDeadline := none })).modAccount h
    (fun a => { a with exhausted := false })

/-- The teardown of a host, with its final state and the notice to the others (R154). -/
def teardown (h : HostId) (final : Membership) (n : Notice) (s : State) : State :=
  postAll n (withdrawVote h (dismantle h final s))

end Sys2Proof.Machine
end

