-- ==== Sys2Proof/Machine/Links.lean ====
section
/-! DEFINITION. The Link Interface: the framer's steps, and the three shared forms of a command on a link: a byte that
completes a header, the end of a transaction that executes a request, and the end of one that commits a read
(chapter 7). -/

namespace Sys2Proof.Machine

/-- The outcome of a command of the exchange. -/
abbrev Result := Host.Outcome State Fault Refusal

/-! ## SDO (R127, R129, R136) -/

/-- The byte a link drives on SDO while the next byte is clocked; absent while SEL is deasserted. -/
def State.sdo (s : State) (h : HostId) : Option Byte :=
  let l := s.links.read h
  if l.sel then
    match l.phase with
    | .header => some (l.statusCopy.getD l.header.length 0)
    | .payloadIn => some 0
    | .discard => some 0
    | .responseOut => some (match l.pendingResult with
        | some p => p.response.getD (p.response.length - l.remaining) 0
        | none => 0)
    | .idle => some (Config.sdoWithoutTransaction h.val s.now)
  else none

/-! ## Framer steps -/

/-- A transaction begins: the header, payload store and pending result are emptied, the void mark and the CRC register
are cleared, and the status block is sampled (R129, R132). -/
def beginTransaction (h : HostId) (s : State) : State :=
  s.modLink h (fun l =>
    { l with sel := true, phase := .header, header := [], crc := 0, payload := [], pendingResult := none,
             voidMark := false, statusCopy := s.statusBlock h })

/-- A header byte is captured and advances the CRC-8 register (R131, R132). -/
def captureByte (h : HostId) (b : Byte) (s : State) : State :=
  s.modLink h (fun l => { l with header := l.header ++ [b], crc := crcByte l.crc b })

/-- SEL is seen deasserted and the framer is IDLE (R129, R137, R139). -/
def deselect (h : HostId) (s : State) : State :=
  s.modLink h (fun l => { l with sel := false, selectSeen := true, phase := .idle })

/-- The end of a transaction: IDLE, with payload store and pending result emptied (R137, R138). -/
def closeTransaction (h : HostId) (s : State) : State :=
  (deselect h s).modLink h (fun l => { l with payload := [], pendingResult := none })

/-- What a request leaves as last result and last value. -/
structure Reply where
  result : ResultCode
  value : Word16
  deriving DecidableEq, Repr

/-- The last result, serial and value (R140). -/
def setLast (h : HostId) (r : Reply) (serial : Byte) (s : State) : State :=
  s.modLink h (fun l => { l with lastResult := r.result, lastSerial := serial, lastValue := r.value })

/-- A refused request: no table changes, last value 0 (R140). -/
def refuse (c : ResultCode) (s : State) : State × Reply := (s, { result := c, value := 0 })

/-- An accepted request's new state and last value. -/
def accept (s : State) (v : Word16) : State × Reply := (s, { result := .ok, value := v })

/-! ## A deselect that finds no transaction of its own -/

/-- A command that ends a transaction, taken after an event that has ended or voided that transaction: in DISCARD it
reports nothing (R139, R144); in IDLE, after a device reset, it is seen as a deassertion (R129, R139). Any other state
of the framer is not the event the command names. -/
def deselectAfterEvent (h : HostId) (s : State) : Result :=
  let l := s.links.read h
  match l.phase with
  | .discard => .next (deselect h s)
  | .idle => if l.sel then .next (deselect h s) else .refused .notThatEvent
  | _ => .refused .notThatEvent

/-! ## Shared forms of a command on a link -/

/-- Whether a link's transaction is complete with its void mark clear, ready for the deselect (R134, R137). -/
def Link.isComplete (l : Link) (p : Phase) : Bool := l.phase == p && l.remaining == 0 && !l.voidMark

/-- The deselect that executes a request at the end of its complete transaction (R137): the framer becomes IDLE, the
owner carries the request out or refuses it, and the last result is set. `which` says which requests the command
names. -/
def endRequest (h : HostId) (which : Request → Bool) (owner : Link → State → State × Reply) (s : State) : Result :=
  let l := s.links.read h
  if l.isComplete .payloadIn && which l.request then
    let (t, r) := owner l (closeTransaction h s)
    .next (setLast h r l.request.serial t)
  else deselectAfterEvent h s

/-- The deselect that commits a read kind at the end of its complete transaction (R137). -/
def endRead (h : HostId) (k : Kind) (owner : Commit → State → State) (s : State) : Result :=
  let l := s.links.read h
  if l.isComplete .responseOut && l.request.kind == some k then
    match l.pendingResult with
    | some p =>
      .next (setLast h { result := p.result, value := p.value } l.request.serial
        (owner p.commit (closeTransaction h s)))
    | none => .refused .notThatEvent
  else deselectAfterEvent h s

/-- Whether byte `b` on link `h` completes a header, and whether its check is then good (R132). -/
def Link.completesHeader (l : Link) (b : Byte) (good : Bool) : Bool :=
  l.phase == .header && l.header.length == 11 && (l.crc == b) == good

/-- A byte that arrives on a link whose framer ignores it: with SEL deasserted or no transaction begun (R127, R129),
in DISCARD (R133, R139), or beyond the expected length (R136). -/
def Link.ignoresByte (l : Link) : Bool :=
  match l.phase with
  | .idle | .discard => true
  | _ => false

/-- A byte that completes a header, for the headers a command names: the framer's answer, no effect where the framer
ignores the byte, or not the event (R133, R134). -/
def headerEnd (h : HostId) (b : Byte) (good : Bool) (which : Request → Bool) (answer : Request → State → State)
    (s : State) : Result :=
  let l := s.links.read h
  let r := Request.ofHeader (l.header ++ [b])
  if l.completesHeader b good && which r then .next (answer r (captureByte h b s))
  else if l.ignoresByte then .next s
  else .refused .notThatEvent

/-! ## A good header (R134, R135) -/

/-- The response of a read kind goes into the pending result, and the framer into RESPONSE_OUT (R134, R135). -/
def respond (h : HostId) (p : PendingResult) (s : State) : State :=
  s.modLink h (fun l =>
    { l with phase := .responseOut, remaining := p.response.length, pendingResult := some p })

/-- The framer awaits a payload, of 0 bytes for a request without one (R134). -/
def awaitPayload (h : HostId) (n : Nat) (s : State) : State :=
  s.modLink h (fun l => { l with phase := .payloadIn, remaining := n })

/-- Whether the count of a PUT or a TAKE is in range (R61, R96). -/
def countInRange (a : Word16) : Bool := decide (1 ≤ a.toNat) && decide (a.toNat ≤ Config.maxPiece)

/-- The payload bytes a request expects after its header (R134). -/
def Request.payloadLength (r : Request) : Nat :=
  if r.kind = some .put ∧ countInRange r.a then r.a.toNat else 0

end Sys2Proof.Machine
end

