-- ==== Sys2Proof/Machine/Reads.lean ====
section
/-! DEFINITION. The read kinds at their headers: what GET, FETCH_NOTICE, READ_COUNTER, FIND_CHANNEL and TAKE answer, and
the good header of any request (R134, R135). -/

namespace Sys2Proof.Machine

/-- A response with nothing to commit. -/
def plainResponse (bytes : List Byte) (c : ResultCode) : PendingResult :=
  { response := bytes, result := c, value := 0, commit := .nothing }

/-- GET (R159): the 4-byte value of the identifier; four zeros and BAD_REQUEST where A names none. -/
def answerGet (h : HostId) (r : Request) (s : State) : State :=
  match Ident.ofCode r.a with
  | some i => respond h (plainResponse (bytes32 (BitVec.ofNat 32 (s.value h i))) .ok) s
  | none => respond h (plainResponse (bytes32 0) .badRequest) s

/-- FETCH_NOTICE (R171): the head record, or NONE, with the host's lost count. -/
def answerFetchNotice (h : HostId) (_r : Request) (s : State) : State :=
  let d := s.desks.read h
  respond h { response := noticeRecord d.notices.head? d.lost, result := .ok, value := 0,
              commit := .fetchNotice d.notices.head? d.lost } s

/-- READ_COUNTER (R180, R181): the captured value; four zeros and BAD_REQUEST where A names no counter. -/
def answerReadCounter (h : HostId) (r : Request) (s : State) : State :=
  match CounterId.ofCode r.a with
  | some i =>
    let captured := (s.desks.read h).counters.capture i
    respond h { response := bytes32 (counterValue captured), result := .ok, value := 0,
                commit := .readCounter i captured } s
  | none => respond h (plainResponse (bytes32 0) .badRequest) s

/-- FIND_CHANNEL (R40): the channel information of the key; that of no channel to a host not JOINED. -/
def answerFindChannel (h : HostId) (r : Request) (s : State) : State :=
  if s.isJoined h then respond h (plainResponse (s.channelInfo (s.findKey r.key)) .ok) s
  else respond h (plainResponse (s.channelInfo none) .notJoined) s

/-! ## TAKE -/

/-- The outcome of an executed TAKE on an entry (R97). -/
def takeOutcome (m : Message) (e : Entry) : TakeOutcome :=
  match m.state with
  | .aborted => .aborted
  | .filling => if e.offset = m.length then .stalled else .data
  | _ => .data

/-- The length field of a descriptor: the length of a SEALED message, the declared length of a FILLING one (0 where
none was declared), the bytes put before the abort of an ABORTED one (R99). -/
def Message.shownLength (m : Message) : Nat :=
  match m.state with
  | .filling => m.declared.getD 0
  | _ => m.length

/-- The descriptor of a TAKE of `n` bytes on an entry (R97, R98, R99). -/
def takeDescriptor (m : Message) (e : Entry) (n : Nat) : Descriptor :=
  let o := takeOutcome m e
  let count := if o = .data then min n (m.length - e.offset) else 0
  { outcome := o
    first := o == .data && e.offset == 0
    last := o == .data && m.state == .sealed && e.offset + count == m.length
    unknown := m.state == .filling && m.declared.isNone
    publisher := m.publisher
    count := count
    key := m.key
    sequence := m.sequence
    tag := m.tag
    offset := e.offset
    length := m.shownLength }

/-- A TAKE of `n` bytes executed on the head entry (R97, R98): DATA and ABORTED open the entry; the reported bytes are
fixed here, and zeros fill up to `n`. -/
def answerTakeHead (h : HostId) (n : Nat) (e : EntryId) (s : State) : State :=
  let entry := s.entries.read e
  let d := takeDescriptor (s.messages.read entry.message) entry n
  let opens := d.outcome == .data || d.outcome == .aborted
  let t := if opens then s.modEntry e (fun x => { x with state := .opened }) else s
  respond h
    { response := d.bytes ++ s.readBytes entry.message entry.offset d.count ++ List.replicate (n - d.count) 0
      result := .ok
      value := word d.count
      commit := .take e d.outcome d.count d.last (opens && entry.state == .queued) } t

/-- TAKE at its header (R96, R97). -/
def answerTake (h : HostId) (r : Request) (s : State) : State :=
  if !s.isJoined h then respond h (plainResponse (Descriptor.blank .refused).bytes .notJoined) s
  else if !countInRange r.a then respond h (plainResponse (Descriptor.blank .refused).bytes .badRequest) s
  else match (s.queues.read h).head? with
    | none =>
      respond h
        (plainResponse ((Descriptor.blank .empty).bytes ++ List.replicate r.a.toNat 0) .ok) s
    | some e => answerTakeHead h r.a.toNat e s

/-! ## Any good header -/

/-- A read kind's execution at its header; any other request awaits the end of its transaction (step 3 of R134). -/
def answerKind (h : HostId) (r : Request) (s : State) : State :=
  match r.kind with
  | some .get => answerGet h r s
  | some .fetchNotice => answerFetchNotice h r s
  | some .readCounter => answerReadCounter h r s
  | some .findChannel => answerFindChannel h r s
  | some .take => answerTake h r s
  | _ => awaitPayload h r.payloadLength s

/-- Whether a request's code names a kind. -/
def isKind (k : Kind) (r : Request) : Bool := r.kind == some k

/-! ## Commits -/

/-- The commit of a TAKE (R100, R101): DATA raises the read offset, and with LAST completes the delivery; ABORTED
removes the entry; the other outcomes change nothing. -/
def commitTake (h : HostId) (c : Commit) (s : State) : State :=
  match c with
  | .take e .data count last _ =>
    let t := s.modEntry e (fun x => { x with offset := x.offset + count })
    if last then countTaken h (removeEntry h e t) else t
  | .take e .aborted _ _ _ => removeEntry h e s
  | _ => s

/-- The commit of a FETCH_NOTICE (R172): a reported record leaves the queue, and the lost count is reduced by the
reported one. -/
def commitFetchNotice (h : HostId) (c : Commit) (s : State) : State :=
  match c with
  | .fetchNotice reported lost =>
    s.modDesk h (fun d =>
      { d with notices := if reported.isSome then d.notices.tail else d.notices, lost := d.lost - lost })
  | _ => s

/-- The commit of a READ_COUNTER (R180, R181). -/
def commitReadCounter (h : HostId) (c : Commit) (s : State) : State :=
  match c with
  | .readCounter i captured => s.modCounters h (fun x => x.reduce captured i)
  | _ => s

/-- The void of a read (R102, R138): an entry that this TAKE's header opened, at read offset 0, is QUEUED again. -/
def voidRead (p : Option PendingResult) (s : State) : State :=
  match p with
  | some { commit := .take e _ _ _ true, .. } =>
    s.modEntry e (fun x => if x.offset = 0 then { x with state := .queued } else x)
  | _ => s

end Sys2Proof.Machine
end

