-- ==== Sys2Proof/Machine/ChannelRequests.lean ====
section
/-! DEFINITION. OPEN_CHANNEL, CLOSE_CHANNEL and FIND_CHANNEL (chapter 2). -/

namespace Sys2Proof.Machine

/-! ## OPEN_CHANNEL (R32) -/

/-- The channel an accepted OPEN_CHANNEL makes (R32). -/
def openedChannel (h : HostId) (r : Request) (mode : Mode) : Channel :=
  { state := .opened, key := r.key, creator := some h, mode := mode, maxLength := r.a.toNat,
    publishSet := HostSet.ofBits r.b, nextSequence := 0, liveCount := 0, subscriberCount := 0 }

/-- Whether a maximum length and a publish set are in range (check 3 of R32). -/
def openInRange (r : Request) : Bool :=
  decide (1 ≤ r.a.toNat) && decide (r.a.toNat ≤ Config.maxMessage) && decide (r.b.toNat < 16)

/-- OPEN_CHANNEL's checks and effect (R32). -/
def ownerOpenChannel (h : HostId) (l : Link) (s : State) : State × Reply :=
  let r := l.request
  if !s.isJoined h then refuse .notJoined s
  else if r.key = 0 then refuse .badKey s
  else match Mode.ofCode r.c, openInRange r with
    | some mode, true =>
      match s.findKey r.key with
      | some i => refuse (if (s.channels.read i).state = .opened then .channelExists else .busy) s
      | none =>
        match s.channels.lowest (fun c => c.state == .closed) with
        | none => refuse .tableFull s
        | some i => accept (s.modChannel i (fun _ => openedChannel h r mode)) (word i.val)
    | _, _ => refuse .badRequest s

/-- OPEN_CHANNEL (R32). -/
def execOpenChannel (h : HostId) (s : State) : Result := endRequest h (isKind .openChannel) (ownerOpenChannel h) s

/-! ## CLOSE_CHANNEL (R34 to R37) -/

/-- One FILLING message aborted by a close, its publisher told (R35). -/
def closeAbort (m : MsgId) (s : State) : State :=
  let msg := s.messages.read m
  post msg.publisher (.messageAborted msg.key msg.sequence) (abortMessage m s)

/-- One subscription freed by a close, its owner told (R36). -/
def closeSubscription (key : Word16) (i : SubId) (s : State) : State :=
  post (s.subs.read i).owner (.channelClosed key i) (freeSubscription i s)

/-- The first step of a close (R35), in ascending record number. -/
def closeAborts (c : ChanId) (s : State) : State :=
  (s.messages.indices (fun m => m.state == .filling && m.channel == c)).foldl (fun s m => closeAbort m s) s

/-- The second step of a close (R36), in ascending subscription index. -/
def closeSubscriptions (c : ChanId) (s : State) : State :=
  (s.subs.indices (fun x => x.state != .free && x.channel == c)).foldl
    (fun t i => closeSubscription (s.channels.read c).key i t) s

/-- The third step of a close (R37): CLOSED with no live message, DRAINING otherwise. -/
def Channel.afterClose (c : Channel) : Channel :=
  if c.liveCount = 0 then Channel.closed else { c with state := .draining }

/-- The close event (R35 to R37). -/
def closeChannel (c : ChanId) (s : State) : State :=
  (closeSubscriptions c (closeAborts c s)).modChannel c Channel.afterClose

/-- CLOSE_CHANNEL's checks and effect (R34): the last value is the live count after the close. -/
def ownerCloseChannel (h : HostId) (l : Link) (s : State) : State × Reply :=
  let r := l.request
  if !s.isJoined h then refuse .notJoined s
  else if r.key = 0 then refuse .badKey s
  else match s.findKey r.key with
    | none => refuse .noChannel s
    | some i =>
      let c := s.channels.read i
      if c.state = .draining then refuse .busy s
      else if c.creator.isSome && c.creator != some h then refuse .notPermitted s
      else
        let t := closeChannel i s
        accept t (word (t.channels.read i).liveCount)

/-- CLOSE_CHANNEL (R34). -/
def execCloseChannel (h : HostId) (s : State) : Result := endRequest h (isKind .closeChannel) (ownerCloseChannel h) s

/-! ## FIND_CHANNEL (R40) -/

/-- FIND_CHANNEL (R40), with the rest of the good header's event (R134). -/
def execFindChannel (h : HostId) (b : Byte) (s : State) : Result :=
  headerEnd h b true (isKind .findChannel) (fun r t => answerFindChannel h r (renewLease h t)) s

/-- FIND_CHANNEL_COMMIT (R137): no effect beside the end of the transaction. -/
def execFindChannelCommit (h : HostId) (s : State) : Result := endRead h .findChannel (fun _ t => t) s

end Sys2Proof.Machine
end

