-- ==== Sys2Proof/Machine/DeliveryRequests.lean ====
section
/-! DEFINITION. TAKE and SKIP (chapter 5). -/

namespace Sys2Proof.Machine

/-- TAKE (R96, R97), with the rest of the good header's event (R134). -/
def execTake (h : HostId) (b : Byte) (s : State) : Result :=
  headerEnd h b true (isKind .take) (fun r t => answerTake h r (renewLease h t)) s

/-- TAKE_COMMIT (R100, R101). -/
def execTakeCommit (h : HostId) (s : State) : Result := endRead h .take (commitTake h) s

/-- SKIP's check and effect (R105): the last value is the skipped message's sequence. -/
def ownerSkip (h : HostId) (_l : Link) (s : State) : State × Reply :=
  if !s.isJoined h then refuse .notJoined s
  else match (s.queues.read h).head? with
    | none => refuse .empty s
    | some e => accept (removeEntry h e s) (s.messages.read (s.entries.read e).message).sequence

/-- SKIP (R105). -/
def execSkip (h : HostId) (s : State) : Result := endRequest h (isKind .skip) (ownerSkip h) s

end Sys2Proof.Machine
end

