-- ==== Sys2Proof/Machine/LinkEvents.lean ====
section
/-! DEFINITION. The link events: selects, header, payload and response bytes, and the deselects that carry out no
request (chapter 7). -/

namespace Sys2Proof.Machine

/-- SEL_ASSERTED (R129): a transaction begins on an IDLE framer that has seen SEL deasserted, outside a device reset.
Otherwise the level of the pin alone changes (R129, R165). -/
def execSelAsserted (h : HostId) (s : State) : Result :=
  let l := s.links.read h
  if l.sel then .refused .notThatEvent
  else if l.phase = .idle ∧ l.selectSeen ∧ !s.resetAsserted then .next (beginTransaction h s)
  else .next (s.modLink h (fun l => { l with sel := true }))

/-- HEADER_BYTE_ARRIVAL (R131, R132): one of header bytes 0 to 10. -/
def execHeaderByteArrival (h : HostId) (b : Byte) (s : State) : Result :=
  let l := s.links.read h
  if l.phase = .header ∧ l.header.length < 11 then .next (captureByte h b s)
  else if l.ignoresByte then .next s
  else .refused .notThatEvent

/-- HEADER_GOOD_CHECK (R134): the lease is renewed, the request decoded, a read kind executed, and the framer moves
on. -/
def execHeaderGoodCheck (h : HostId) (b : Byte) (s : State) : Result :=
  headerEnd h b true (fun _ => true) (fun r t => answerKind h r (renewLease h t)) s

/-- HEADER_BAD_CHECK (R133): DISCARD, a CHECK fault; no lease is renewed and the last result stays. -/
def execHeaderBadCheck (h : HostId) (b : Byte) (s : State) : Result :=
  headerEnd h b false (fun _ => true)
    (fun r t => linkFault h .check r.serial (t.modLink h (fun l => { l with phase := .discard }))) s

/-- PAYLOAD_BYTE_ARRIVAL (R136): the byte joins the payload store while any is expected, and is ignored beyond. -/
def execPayloadByteArrival (h : HostId) (b : Byte) (s : State) : Result :=
  let l := s.links.read h
  if l.phase = .payloadIn then
    if l.remaining = 0 then .next s
    else .next (s.modLink h (fun l => { l with payload := l.payload ++ [b], remaining := l.remaining - 1 }))
  else if l.ignoresByte then .next s
  else .refused .notThatEvent

/-- RESPONSE_BYTE_ARRIVAL (R136): the next response byte, which `State.sdo` names, has been shifted out; beyond the
response the byte is ignored. -/
def execResponseByteArrival (h : HostId) (s : State) : Result :=
  let l := s.links.read h
  if l.phase = .responseOut then
    if l.remaining = 0 then .next s else .next (s.modLink h (fun l => { l with remaining := l.remaining - 1 }))
  else if l.ignoresByte then .next s
  else .refused .notThatEvent

/-- DESELECT_IN_DISCARD (R133, R139): the framer becomes IDLE and nothing is reported. -/
def execDeselectInDiscard (h : HostId) (s : State) : Result := deselectAfterEvent h s

/-- Whether a link's transaction is under way and not complete (R138). -/
def Link.isIncomplete (l : Link) : Bool :=
  match l.phase with
  | .header => true
  | .payloadIn | .responseOut => l.remaining != 0
  | _ => false

/-- TRANSACTION_VOID (R138): a read's header effect is undone, the last result is VOID, and the fault is FRAMING. -/
def execTransactionVoid (h : HostId) (s : State) : Result :=
  let l := s.links.read h
  if l.isIncomplete then
    .next (linkFault h .framing l.serial
      (setLast h { result := .void, value := 0 } l.serial (voidRead l.pendingResult (closeTransaction h s))))
  else deselectAfterEvent h s

/-- SELECT_SEEN (R129): the select-seen flag is set. While RESET stays asserted no transaction begins whatever the
flag, and the end of the reset sets it from the pin (R128, R165). -/
def execSelectSeen (h : HostId) (s : State) : Result :=
  let l := s.links.read h
  if l.phase = .idle ∧ l.sel then .next (deselect h s) else .refused .notThatEvent

/-- UNKNOWN_REQUEST (R134, R143): refused BAD_REQUEST in every host state. -/
def execUnknownRequest (h : HostId) (s : State) : Result :=
  endRequest h (fun r => r.kind.isNone) (fun _ t => refuse .badRequest t) s

end Sys2Proof.Machine
end

