-- ==== Sys2Proof/Machine/MembershipRequests.lean ====
section
/-! DEFINITION. JOIN, LEAVE, SET, GET and VOTE_CLEAR (chapter 8). -/

namespace Sys2Proof.Machine

/-! ## JOIN (R149) -/

/-- Whether a lease period is in range: 0, or 10 to 60000 ms (R157). -/
def leaseInRange (n : Nat) : Bool := n == 0 || (decide (10 ≤ n) && decide (n ≤ 60000))

/-- Whether a credit threshold is in range (R157). -/
def thresholdInRange (n : Nat) : Bool := decide (1 ≤ n) && decide (n ≤ 64)

/-- Steps 1 to 4 of an accepted JOIN (R149): quota and exhausted mark, lease and threshold, an emptied desk with READY
latched, and the state JOINED. -/
def admitMember (h : HostId) (r : Request) (s : State) : State :=
  let quota := min r.b.toNat s.params.quotaCeiling
  let t := s.modAccount h
    (fun a => { a with quota := quota, exhausted := ({ a with quota := quota } : Account).credit == 0 })
  let t := t.modMember h (fun x =>
    { x with leasePeriod := r.a.toNat, creditThreshold := r.c.toNat, leaseDeadline := leaseDeadlineOf s.now r.a.toNat })
  let t := t.modDesk h (fun _ => Desk.ready)
  t.modMember h (fun x => { x with state := .joined })

/-- A joining host learns of an open vote, which is then judged (step 6 of R149). -/
def tellVote (h : HostId) (s : State) : State :=
  match s.vote with
  | some v => judgeVote (post h (.voteOpened v.opener) s)
  | none => s

/-- JOIN's checks and effect (R149). -/
def ownerJoin (h : HostId) (l : Link) (s : State) : State × Reply :=
  let r := l.request
  if s.isJoined h then refuse .busy s
  else if !leaseInRange r.a.toNat || r.b == 0 || !thresholdInRange r.c.toNat then refuse .badRequest s
  else
    accept (tellVote h (postOthers h (.hostJoined h) (admitMember h r s)))
      (word (min r.b.toNat s.params.quotaCeiling))

/-- JOIN (R149). A JOIN in flight at an exchange clear is void: its deselect ends DISCARD (R145). DEDUCED as the reading of
R150 and R162 (log 15). -/
def execJoin (h : HostId) (s : State) : Result := endRequest h (isKind .join) (ownerJoin h) s

/-! ## LEAVE (R153) -/

/-- LEAVE's check and effect: the teardown, with final state DETACHED (R153). -/
def ownerLeave (h : HostId) (_l : Link) (s : State) : State × Reply :=
  if s.isJoined h then accept (teardown h .detached (.hostLeft h) s) 0 else refuse .notJoined s

/-- LEAVE (R153). -/
def execLeave (h : HostId) (s : State) : Result := endRequest h (isKind .leave) (ownerLeave h) s

/-! ## SET (R158) -/

/-- Whether a request is a SET of an identifier. -/
def isSetOf (i : Ident) (r : Request) : Bool := r.kind == some .set && Ident.ofCode r.a == some i

/-- Whether an exchange-wide parameter may not be set: a channel is OPEN or DRAINING, or a vote is open (check 4 of
R158). -/
def State.paramsLocked (s : State) : Bool := s.nonClosed != 0 || s.vote.isSome

/-- A SET of a per-host parameter: its checks 1 and 3, and its effect (R158). -/
def ownerSetOwn (h : HostId) (inRange : Nat → Bool) (store : Word16 → State → State) (l : Link) (s : State) :
    State × Reply :=
  let b := l.request.b
  if !s.isJoined h then refuse .notJoined s
  else if !inRange b.toNat then refuse .badRequest s
  else accept (store b s) b

/-- A SET of an exchange-wide parameter: its checks 1, 3 and 4, and its effect (R158). -/
def ownerSetShared (h : HostId) (inRange : Nat → Bool) (store : Word16 → State → State) (l : Link) (s : State) :
    State × Reply :=
  let b := l.request.b
  if !s.isJoined h then refuse .notJoined s
  else if !inRange b.toNat then refuse .badRequest s
  else if s.paramsLocked then refuse .busy s
  else accept (store b s) b

/-- A SET of the credit threshold judges the exhausted mark (R12). -/
def storeThreshold (h : HostId) (b : Word16) (s : State) : State :=
  let t := s.modMember h (fun x => { x with creditThreshold := b.toNat })
  if (t.accounts.read h).exhausted ∧ b.toNat ≤ t.credit h then
    latch h .credit (t.modAccount h (fun a => { a with exhausted := false }))
  else t

/-- SET_LEASE_PERIOD (R158): the deadline is set again from the SET event. -/
def execSetLeasePeriod (h : HostId) (s : State) : Result :=
  endRequest h (isSetOf .leasePeriod)
    (ownerSetOwn h leaseInRange (fun b t =>
      t.modMember h (fun x =>
        { x with leasePeriod := b.toNat, leaseDeadline := leaseDeadlineOf t.now b.toNat }))) s

/-- SET_ATTENTION_MASK (R158): ATN follows the mask (R175). -/
def execSetAttentionMask (h : HostId) (s : State) : Result :=
  endRequest h (isSetOf .attentionMask)
    (ownerSetOwn h (fun n => decide (n < 32)) (fun b t => t.modMember h (fun x => { x with mask := Mask.ofBits b }))) s

/-- SET_CREDIT_THRESHOLD (R158, R12). -/
def execSetCreditThreshold (h : HostId) (s : State) : Result :=
  endRequest h (isSetOf .creditThreshold) (ownerSetOwn h thresholdInRange (storeThreshold h)) s

/-- SET_RESERVE_THRESHOLD (R158): the rationed flag is re-evaluated (R110). -/
def execSetReserveThreshold (h : HostId) (s : State) : Result :=
  endRequest h (isSetOf .reserveThreshold)
    (ownerSetShared h (fun n => decide (n ≤ 256)) (fun b t =>
      reevaluate { t with params := { t.params with reserveThreshold := b.toNat } })) s

/-- SET_TURN_WINDOW (R158). -/
def execSetTurnWindow (h : HostId) (s : State) : Result :=
  endRequest h (isSetOf .turnWindow)
    (ownerSetShared h (fun n => decide (1 ≤ n) && decide (n ≤ 1000)) (fun b t =>
      { t with params := { t.params with turnWindow := b.toNat } })) s

/-- SET_VOTE_WINDOW (R158). -/
def execSetVoteWindow (h : HostId) (s : State) : Result :=
  endRequest h (isSetOf .voteWindow)
    (ownerSetShared h (fun n => decide (10 ≤ n) && decide (n ≤ 5000)) (fun b t =>
      { t with params := { t.params with voteWindow := b.toNat } })) s

/-- SET_PRECEDENCE (R158): a value of 0 or 1 (R187). -/
def execSetPrecedence (h : HostId) (s : State) : Result :=
  endRequest h (isSetOf .precedence)
    (ownerSetShared h (fun n => decide (n ≤ 1)) (fun b t =>
      { t with params := { t.params with precedence := b == 1 } })) s

/-- SET_QUOTA_CEILING (R158): quotas already granted stay (R9). -/
def execSetQuotaCeiling (h : HostId) (s : State) : Result :=
  endRequest h (isSetOf .quotaCeiling)
    (ownerSetShared h (fun n => decide (1 ≤ n) && decide (n ≤ 512)) (fun b t =>
      { t with params := { t.params with quotaCeiling := b.toNat } })) s

/-- Whether a request is a SET of a read-only value or of no identifier (check 2 of R158). -/
def isSetOfNoParameter (r : Request) : Bool :=
  r.kind == some .set && !(match Ident.ofCode r.a with
    | some i => i.isParameter
    | none => false)

/-- SET_READ_ONLY_VALUE (R158): refused BAD_REQUEST, or NOT_JOINED from a host that is not JOINED. -/
def execSetReadOnlyValue (h : HostId) (s : State) : Result :=
  endRequest h isSetOfNoParameter (fun _ t => refuse (if t.isJoined h then .badRequest else .notJoined) t) s

/-! ## GET (R159) -/

/-- GET (R159, R135), with the rest of the good header's event (R134). -/
def execGet (h : HostId) (b : Byte) (s : State) : Result :=
  headerEnd h b true (isKind .get) (fun r t => answerGet h r (renewLease h t)) s

/-- GET_COMMIT (R137): no effect beside the end of the transaction. -/
def execGetCommit (h : HostId) (s : State) : Result := endRead h .get (fun _ t => t) s

/-! ## VOTE_CLEAR (R161) -/

/-- The vote after a JOINED host's VOTE_CLEAR (R161): opened, with VOTE_OPENED to the others, or with one voter more. -/
def castVote (h : HostId) (s : State) : State :=
  match s.vote with
  | some v => { s with vote := some { v with voters := HostSet.insert v.voters h } }
  | none =>
    postOthers h (.voteOpened h)
      { s with vote := some { voters := HostSet.insert noHosts h, opener := h, deadline := s.now + s.params.voteWindow } }

/-- The JOINED hosts that have not voted in an open vote (R161). -/
def State.votersNeeded (s : State) : Nat :=
  match s.vote with
  | some v => (allHosts.filter (fun g => s.isJoined g && !v.voters.read g)).length
  | none => 0

/-- VOTE_CLEAR's check and effect (R161): the last value counts the JOINED hosts not in the voter set, which the
judgement does not change unless it completes the vote, when it is 0. -/
def ownerVoteClear (h : HostId) (_l : Link) (s : State) : State × Reply :=
  if s.isJoined h then accept (judgeVote (castVote h s)) (word (castVote h s).votersNeeded)
  else refuse .notJoined s

/-- VOTE_CLEAR (R161). -/
def execVoteClear (h : HostId) (s : State) : Result := endRequest h (isKind .voteClear) (ownerVoteClear h) s

end Sys2Proof.Machine
end

