-- ==== Sys2Proof/Machine/NoticeRequests.lean ====
section
/-! DEFINITION. ACK, FETCH_NOTICE and READ_COUNTER (chapter 9). -/

namespace Sys2Proof.Machine

/-! ## ACK (R176) -/

/-- The latches after an ACK (steps 1 to 3 of R176). -/
def ackLatches (named : Word16) (deliveries notices : Bool) (l : Latches) : Latches :=
  let cleared := l.without named
  { cleared with
    delivery := cleared.delivery || (named.getLsbD 0 && deliveries)
    notice := cleared.notice || (named.getLsbD 1 && notices) }

/-- ACK's check and effect (R176): the last value is the latches after it. -/
def ownerAck (h : HostId) (l : Link) (s : State) : State × Reply :=
  let a := l.request.a
  if 64 ≤ a.toNat then refuse .badRequest s
  else
    let d := s.desks.read h
    let after := ackLatches a (!(s.queues.read h).isEmpty) (!d.notices.isEmpty) d.latches
    accept (s.modDesk h (fun d => { d with latches := after })) (word after.toNat)

/-- ACK (R176). -/
def execAck (h : HostId) (s : State) : Result := endRequest h (isKind .ack) (ownerAck h) s

/-! ## FETCH_NOTICE (R171, R172) -/

/-- FETCH_NOTICE (R171), with the rest of the good header's event (R134). -/
def execFetchNotice (h : HostId) (b : Byte) (s : State) : Result :=
  headerEnd h b true (isKind .fetchNotice) (fun r t => answerFetchNotice h r (renewLease h t)) s

/-- FETCH_NOTICE_COMMIT (R172). -/
def execFetchNoticeCommit (h : HostId) (s : State) : Result := endRead h .fetchNotice (commitFetchNotice h) s

/-! ## READ_COUNTER (R180, R181) -/

/-- READ_COUNTER (R180), with the rest of the good header's event (R134). -/
def execReadCounter (h : HostId) (b : Byte) (s : State) : Result :=
  headerEnd h b true (isKind .readCounter) (fun r t => answerReadCounter h r (renewLease h t)) s

/-- READ_COUNTER_COMMIT (R180, R181). -/
def execReadCounterCommit (h : HostId) (s : State) : Result := endRead h .readCounter (commitReadCounter h) s

end Sys2Proof.Machine
end

