-- ==== Sys2Proof/Machine/PublishRequests.lean ====
section
/-! DEFINITION. BEGIN, PUT, SEAL and ABORT (chapter 4). -/

namespace Sys2Proof.Machine

/-! ## BEGIN (R62 to R65) -/

/-- The declared length of a BEGIN: B with the flag set, absent otherwise (R63). -/
def Request.declared (r : Request) : Option Nat := if r.d.getLsbD 0 then some r.b.toNat else none

/-- The record an admitted BEGIN makes (R13, R15, R64). -/
def newMessage (h : HostId) (r : Request) (i : ChanId) (c : Channel) : Message :=
  { Message.vacant with
    state := .filling, channel := i, key := c.key, publisher := h, tag := r.a, mode := c.mode,
    sequence := c.nextSequence, declared := r.declared, refCount := 1 }

/-- Steps 2 to 5 of an admitted BEGIN (R64): the record, the sequence, the live count, and on a STREAMING channel the
deliveries. -/
def startMessage (h : HostId) (r : Request) (i : ChanId) (m : MsgId) (s : State) : State :=
  let c := s.channels.read i
  let t := (s.modMessage m (fun _ => newMessage h r i c)).modChannel i
    (fun x => { x with nextSequence := x.nextSequence + 1, liveCount := x.liveCount + 1 })
  if c.mode = .streaming then createDeliveries m t else t

/-- Whether a channel's publish set lets a host publish: empty, or holding the host (R30). -/
def Channel.permits (c : Channel) (h : HostId) : Bool := c.publishSet == noHosts || c.publishSet.read h

/-- Whether a declared length is above a maximum (check 8 of R62). -/
def Request.declaresAbove (r : Request) (limit : Nat) : Bool :=
  match r.declared with
  | some n => decide (limit < n)
  | none => false

/-- BEGIN's checks and effect (R62, R64). -/
def ownerBegin (h : HostId) (l : Link) (s : State) : State × Reply :=
  let r := l.request
  if !s.isJoined h then refuse .notJoined s
  else if r.key = 0 then refuse .badKey s
  else if 2 ≤ r.d.toNat then refuse .badRequest s
  else match s.findKey r.key with
    | none => refuse .noChannel s
    | some i =>
      let c := s.channels.read i
      if c.state = .draining then refuse .busy s
      else if !c.permits h then refuse .notPermitted s
      else if (s.fillingOf h).isSome then refuse .busy s
      else if r.declaresAbove c.maxLength then refuse .length s
      else match s.messages.lowest (fun m => m.state == .vacant) with
        | none => refuse .noRecord s
        | some m =>
          match arbitrate h s with
          | (t, true) => accept (startMessage h r i m t) c.nextSequence
          | (t, false) => refuse .wait t

/-- BEGIN (R62). -/
def execBegin (h : HostId) (s : State) : Result := endRequest h (isKind .begin) (ownerBegin h) s

/-! ## PUT (R67 to R69) -/

/-- Whether a payload would take a message past its declared length, its channel's maximum, or 2048 (check 4 of R67). -/
def State.exceedsLength (s : State) (m : Message) (n : Nat) : Bool :=
  (match m.declared with
    | some d => decide (d < m.length + n)
    | none => false)
  || decide ((s.channels.read m.channel).maxLength < m.length + n) || decide (Config.maxMessage < m.length + n)

/-- Whether an append's cells are more than the free count, or would take the host's charge above its quota (check 5 of
R67). A PUT that needs no cell passes (R68). -/
def State.lacksCells (s : State) (h : HostId) (k : Nat) : Bool :=
  k != 0 && (decide (s.freeCount < k) || decide ((s.accounts.read h).quota < (s.accounts.read h).charge + k))

/-- PUT's checks and effect (R67, R69): the last value is the message's length after it. -/
def ownerPut (h : HostId) (l : Link) (s : State) : State × Reply :=
  let r := l.request
  if !s.isJoined h then refuse .notJoined s
  else if !countInRange r.a then refuse .badRequest s
  else match s.fillingOf h with
    | none => refuse .noMessage s
    | some m =>
      let msg := s.messages.read m
      if s.exceedsLength msg r.a.toNat then (s, { result := .length, value := word msg.length })
      else if s.lacksCells h (newCells msg.length r.a.toNat) then (s, { result := .noCell, value := word msg.length })
      else accept (appendBytes m l.payload s) (word (msg.length + r.a.toNat))

/-- PUT (R67). -/
def execPut (h : HostId) (s : State) : Result := endRequest h (isKind .put) (ownerPut h) s

/-! ## SEAL (R73 to R75) -/

/-- Steps 1 and 2 of an accepted SEAL (R74): SEALED, and on a WHOLE channel the deliveries. -/
def sealMessage (m : MsgId) (s : State) : State :=
  let t := s.modMessage m (fun x => { x with state := .sealed })
  if (s.messages.read m).mode = .whole then createDeliveries m t else t

/-- SEAL's checks and effect (R73, R74): the last value is the entries that refer to the message before the hold is
dropped (R75). -/
def ownerSeal (h : HostId) (_l : Link) (s : State) : State × Reply :=
  if !s.isJoined h then refuse .notJoined s
  else match s.fillingOf h with
    | none => refuse .noMessage s
    | some m =>
      let msg := s.messages.read m
      if msg.declared.isSome && msg.declared != some msg.length then
        (s, { result := .length, value := word msg.length })
      else
        let t := sealMessage m s
        accept (endTurnOf h (countSeal h msg.length (release m t))) (word ((t.messages.read m).refCount - 1))

/-- SEAL (R73). -/
def execSeal (h : HostId) (s : State) : Result := endRequest h (isKind .sealMsg) (ownerSeal h) s

/-! ## ABORT (R79) -/

/-- ABORT's checks and effect (R79): the last value is the aborted message's sequence. -/
def ownerAbort (h : HostId) (_l : Link) (s : State) : State × Reply :=
  if !s.isJoined h then refuse .notJoined s
  else match s.fillingOf h with
    | none => refuse .noMessage s
    | some m => accept (abortMessage m s) (s.messages.read m).sequence

/-- ABORT (R79). -/
def execAbort (h : HostId) (s : State) : Result := endRequest h (isKind .abort) (ownerAbort h) s

end Sys2Proof.Machine
end

