-- ==== Sys2Proof/Machine/SubscriptionRequests.lean ====
section
/-! DEFINITION. SUBSCRIBE, UNSUBSCRIBE, SUSPEND and RESUME (chapter 3). -/

namespace Sys2Proof.Machine

/-! ## SUBSCRIBE (R46) -/

/-- The record an accepted SUBSCRIBE makes (R46). -/
def newSubscription (h : HostId) (r : Request) (c : ChanId) (p : Policy) : Subscription :=
  { state := .active, owner := h, channel := c, matchBits := r.a, mask := r.b, limit := r.c.toNat, policy := p,
    own := r.d.getLsbD 2, queued := 0 }

/-- Whether a limit is in range and D holds no bit beside the policy code and the own flag (check 5 of R46). -/
def subscribeInRange (r : Request) : Bool :=
  decide (1 ≤ r.c.toNat) && decide (r.c.toNat ≤ Config.maxLimit) && decide (r.d.toNat < 8)

/-- SUBSCRIBE's checks and effect (R46). -/
def ownerSubscribe (h : HostId) (l : Link) (s : State) : State × Reply :=
  let r := l.request
  if !s.isJoined h then refuse .notJoined s
  else if r.key = 0 then refuse .badKey s
  else match s.findKey r.key with
    | none => refuse .noChannel s
    | some c =>
      if (s.channels.read c).state = .draining then refuse .busy s
      else match Policy.ofBits r.d, subscribeInRange r with
        | some p, true =>
          match s.subs.lowest (fun x => x.state == .free) with
          | none => refuse .tableFull s
          | some i =>
            accept ((s.modSub i (fun _ => newSubscription h r c p)).modChannel c
              (fun x => { x with subscriberCount := x.subscriberCount + 1 })) (word i.val)
        | _, _ => refuse .badRequest s

/-- SUBSCRIBE (R46). -/
def execSubscribe (h : HostId) (s : State) : Result := endRequest h (isKind .subscribe) (ownerSubscribe h) s

/-! ## UNSUBSCRIBE (R48 to R50) -/

/-- The record an index names, if it is not FREE and belongs to the host (R48, R51). -/
def State.ownedSub (s : State) (h : HostId) (a : Word16) : Option SubId :=
  if hlt : a.toNat < 64 then
    let x := s.subs.read ⟨a.toNat, hlt⟩
    if x.state ≠ .free ∧ x.owner = h then some ⟨a.toNat, hlt⟩ else none
  else none

/-- The entries a purge removes: the QUEUED ones that name the subscription, head first (R50). -/
def State.purged (s : State) (h : HostId) (i : SubId) (purge : Bool) : List EntryId :=
  if purge then s.queuedOf h i else []

/-- UNSUBSCRIBE's checks and effect (R48): the last value is the number of entries purged. -/
def ownerUnsubscribe (h : HostId) (l : Link) (s : State) : State × Reply :=
  let r := l.request
  if !s.isJoined h then refuse .notJoined s
  else if 2 ≤ r.d.toNat then refuse .badRequest s
  else match s.ownedSub h r.a with
    | none => refuse .badIndex s
    | some i =>
      let gone := s.purged h i (r.d.getLsbD 0)
      accept (freeSubscription i (removeEntries h gone s)) (word gone.length)

/-- UNSUBSCRIBE (R48). -/
def execUnsubscribe (h : HostId) (s : State) : Result := endRequest h (isKind .unsubscribe) (ownerUnsubscribe h) s

/-! ## SUSPEND and RESUME (R51, R52) -/

/-- The checks SUSPEND and RESUME share, and the state they leave the record in; the last value is its queued count. -/
def ownerRest (h : HostId) (rest : SubState) (l : Link) (s : State) : State × Reply :=
  if !s.isJoined h then refuse .notJoined s
  else match s.ownedSub h l.request.a with
    | none => refuse .badIndex s
    | some i => accept (s.modSub i (fun x => { x with state := rest })) (word (s.subs.read i).queued)

/-- SUSPEND (R51). -/
def execSuspend (h : HostId) (s : State) : Result := endRequest h (isKind .suspend) (ownerRest h .suspended) s

/-- RESUME (R52). -/
def execResume (h : HostId) (s : State) : Result := endRequest h (isKind .resume) (ownerRest h .active) s

end Sys2Proof.Machine
end

