-- ==== Sys2Proof/Machine/TimeEvents.lean ====
section
/-! DEFINITION. Device reset, the millisecond time, and the expiries of leases, turns and votes (R119, R152, R162,
R165, R188). -/

namespace Sys2Proof.Machine

/-- A link under device reset (R128, R139): its pin keeps its level; the select-seen flag waits for the end of the
reset. -/
def Link.underReset (l : Link) : Link := { Link.reset with sel := l.sel, selectSeen := false }

/-- DEVICE_RESET (R165): the starting state, held until RESET is released. The millisecond time stands still (R188),
the data bytes of the pool keep what was last written (R1), and the SEL pins keep their levels. -/
def execDeviceReset (s : State) : Result :=
  .next { State.reset with
    pending := s.pending
    now := s.now
    resetAsserted := true
    pool := s.pool
    links := s.links.mapAll Link.underReset }

/-- RESET_RELEASE (R128, R165, R188): the reset ends, the millisecond time begins at 0, and each framer's select-seen
flag is set if its SEL is deasserted. -/
def execResetRelease (s : State) : Result :=
  if s.resetAsserted then
    .next { s with
      resetAsserted := false
      now := 0
      links := s.links.mapAll (fun l => { l with selectSeen := !l.sel }) }
  else .refused .notThatEvent

/-- Whether a deadline is present and reached (R188). -/
def reached (deadline : Option Nat) (now : Nat) : Bool :=
  match deadline with
  | some d => decide (d ≤ now)
  | none => false

/-- Whether a JOINED host's lease deadline is reached (R152). -/
def State.leaseDue (s : State) (h : HostId) : Bool := s.isJoined h && reached (s.members.read h).leaseDeadline s.now

/-- Whether the turn's deadline is reached (R119). -/
def State.turnDue (s : State) : Bool := reached s.turn.deadline s.now

/-- Whether the open vote's deadline is reached (R162). -/
def State.voteDue (s : State) : Bool := reached (s.vote.map Vote.deadline) s.now

/-- Whether an expiry that the present millisecond brings has not been taken yet (R188). -/
def State.expiryDue (s : State) : Bool := allHosts.any s.leaseDue || s.turnDue || s.voteDue

/-- MILLISECOND_TIME_STEP (R188): one millisecond more; the time stands still while RESET is asserted. A deadline is
reached at the step on which the time first equals it, so the next millisecond does not begin before the expiries of the
present one, which are events of their own, taken in either order (notes/assumptions/1.md). -/
def execMillisecondTimeStep (s : State) : Result :=
  if s.resetAsserted then .next s
  else if s.expiryDue then .refused .notThatEvent
  else .next { s with now := s.now + 1 }

/-- LEASE_EXPIRY (R152): a JOINED host whose lease deadline is reached is torn down with final state LAPSED. A
deadline that an earlier event renewed or removed does not expire (R144). -/
def execLeaseExpiry (h : HostId) (s : State) : Result :=
  if s.leaseDue h then
    .next (teardown h .lapsed (.hostLapsed h) s)
  else .next s

/-- TURN_EXPIRY (R119): a GRANTED holder receives TURN_MISSED; the turn ends and may pass on. A deadline that an earlier
event removed or replaced has no effect (R124, R164). -/
def execTurnExpiry (s : State) : Result :=
  if s.turnDue then
    match s.turn with
    | .granted h _ => .next (endTurn (post h .turnMissed s))
    | _ => .next (endTurn s)
  else .next s

/-- VOTE_DEADLINE (R162): the open vote closes and every JOINED host receives VOTE_FAILED. A vote that an earlier event
closed has no deadline. -/
def execVoteDeadline (s : State) : Result :=
  if s.voteDue then .next (postAll .voteFailed { s with vote := none }) else .next s

end Sys2Proof.Machine
end

