-- ==== Sys2Proof/Machine/Dispatch.lean ====
section
/-! DEFINITION. One arm per command, each one direct call of its meaning. -/

namespace Sys2Proof.Machine

def exec (i : Instr) (s : State) : Host.Outcome State Fault Refusal :=
  match i with
  | .deviceReset => Sys2Proof.Machine.execDeviceReset s
  | .selAsserted h => Sys2Proof.Machine.execSelAsserted h s
  | .headerGoodCheck h b => Sys2Proof.Machine.execHeaderGoodCheck h b s
  | .headerBadCheck h b => Sys2Proof.Machine.execHeaderBadCheck h b s
  | .deselectInDiscard h => Sys2Proof.Machine.execDeselectInDiscard h s
  | .transactionVoid h => Sys2Proof.Machine.execTransactionVoid h s
  | .unknownRequest h => Sys2Proof.Machine.execUnknownRequest h s
  | .join h => Sys2Proof.Machine.execJoin h s
  | .leave h => Sys2Proof.Machine.execLeave h s
  | .setLeasePeriod h => Sys2Proof.Machine.execSetLeasePeriod h s
  | .setAttentionMask h => Sys2Proof.Machine.execSetAttentionMask h s
  | .setCreditThreshold h => Sys2Proof.Machine.execSetCreditThreshold h s
  | .setReserveThreshold h => Sys2Proof.Machine.execSetReserveThreshold h s
  | .setTurnWindow h => Sys2Proof.Machine.execSetTurnWindow h s
  | .setVoteWindow h => Sys2Proof.Machine.execSetVoteWindow h s
  | .setPrecedence h => Sys2Proof.Machine.execSetPrecedence h s
  | .setQuotaCeiling h => Sys2Proof.Machine.execSetQuotaCeiling h s
  | .get h b => Sys2Proof.Machine.execGet h b s
  | .voteClear h => Sys2Proof.Machine.execVoteClear h s
  | .ack h => Sys2Proof.Machine.execAck h s
  | .fetchNotice h b => Sys2Proof.Machine.execFetchNotice h b s
  | .fetchNoticeCommit h => Sys2Proof.Machine.execFetchNoticeCommit h s
  | .readCounter h b => Sys2Proof.Machine.execReadCounter h b s
  | .readCounterCommit h => Sys2Proof.Machine.execReadCounterCommit h s
  | .openChannel h => Sys2Proof.Machine.execOpenChannel h s
  | .closeChannel h => Sys2Proof.Machine.execCloseChannel h s
  | .findChannel h b => Sys2Proof.Machine.execFindChannel h b s
  | .subscribe h => Sys2Proof.Machine.execSubscribe h s
  | .unsubscribe h => Sys2Proof.Machine.execUnsubscribe h s
  | .suspend h => Sys2Proof.Machine.execSuspend h s
  | .resume h => Sys2Proof.Machine.execResume h s
  | .begin h => Sys2Proof.Machine.execBegin h s
  | .put h => Sys2Proof.Machine.execPut h s
  | .sealMsg h => Sys2Proof.Machine.execSeal h s
  | .abort h => Sys2Proof.Machine.execAbort h s
  | .take h b => Sys2Proof.Machine.execTake h b s
  | .takeCommit h => Sys2Proof.Machine.execTakeCommit h s
  | .skip h => Sys2Proof.Machine.execSkip h s
  | .leaseExpiry h => Sys2Proof.Machine.execLeaseExpiry h s
  | .turnExpiry => Sys2Proof.Machine.execTurnExpiry s
  | .voteDeadline => Sys2Proof.Machine.execVoteDeadline s
  | .headerByteArrival h b => Sys2Proof.Machine.execHeaderByteArrival h b s
  | .payloadByteArrival h b => Sys2Proof.Machine.execPayloadByteArrival h b s
  | .responseByteArrival h => Sys2Proof.Machine.execResponseByteArrival h s
  | .selectSeen h => Sys2Proof.Machine.execSelectSeen h s
  | .resetRelease => Sys2Proof.Machine.execResetRelease s
  | .millisecondTimeStep => Sys2Proof.Machine.execMillisecondTimeStep s
  | .getCommit h => Sys2Proof.Machine.execGetCommit h s
  | .findChannelCommit h => Sys2Proof.Machine.execFindChannelCommit h s
  | .setReadOnlyValue h => Sys2Proof.Machine.execSetReadOnlyValue h s

end Sys2Proof.Machine
end

