-- ==== Sys2Proof/Machine/Step.lean ====
section
/-! DEFINITION. One step: the command at the front of the queue is taken and carried out whole; with no command waiting
the exchange idles. -/

namespace Sys2Proof.Machine

/-- One step. Commands are taken one at a time, in the order in which they wait (notes/assumptions/1.md); on an empty
queue nothing happens, time included, since time passes by MILLISECOND_TIME_STEP alone (R188). -/
def step (s : State) : Host.Outcome State Fault Refusal :=
  match s.pending with
  | [] => .next s
  | c :: rest => exec c { s with pending := rest }

/-- The state with the command a table word spells put at the front of the queue; the state itself, since no row of the
table gives bits. -/
def State.withFetchWord (s : State) (nbits w : Nat) : State :=
  match decodeTableWord nbits w with
  | some c => { s with pending := c :: s.pending }
  | none => s

end Sys2Proof.Machine
end

