-- ==== Sys2Proof/Safety.lean ====
section
/-! DEFINITION. What a sound state of the exchange is: the manual's twelve laws, each in the words of the rule that
states it, and the facts about the records that the laws rest on. -/

namespace Sys2Proof.Machine

/-! ## Counting -/

/-- A message that is not VACANT. -/
def Message.isLive (m : Message) : Bool := m.state != .vacant

/-- The cells in the chains of the non-VACANT messages, in record order. -/
def State.heldCells (s : State) : List CellId :=
  (s.messages.indices Message.isLive).flatMap s.chainOf

/-- The cell counts of the non-VACANT messages of a publisher, summed (R8). -/
def State.cellsOf (s : State) (h : HostId) : Nat :=
  ((s.messages.indices (fun m => m.isLive && m.publisher == h)).map (fun m => (s.messages.read m).cellCount)).sum

/-- How many in-use entries refer to a message (R16). -/
def State.entriesOf (s : State) (m : MsgId) : Nat := s.entries.countIf (fun e => e.inUse && e.message == m)

/-- How many in-use entries name a subscription (R44). -/
def State.entriesNaming (s : State) (i : SubId) : Nat :=
  s.entries.countIf (fun e => e.inUse && e.subscription == some i)

/-- How many non-VACANT messages a channel slot has (R27). -/
def State.liveOn (s : State) (c : ChanId) : Nat := s.messages.countIf (fun m => m.isLive && m.channel == c)

/-- How many ACTIVE or SUSPENDED subscriptions a channel slot has (R28). -/
def State.subscribersOn (s : State) (c : ChanId) : Nat := s.subs.countIf (fun x => x.state != .free && x.channel == c)

/-! ## The twelve laws -/

/-- The first law (R7): each cell is on the free list or in the chain of exactly one non-VACANT message. -/
def firstLaw (s : State) : Prop := (s.freeList ++ s.heldCells).Perm (List.finRange 512)

/-- The second law (R8): a host's charge is the total cell count of its non-VACANT messages. -/
def secondLaw (s : State) : Prop := ∀ h, (s.accounts.read h).charge = s.cellsOf h

/-- The third law (R16): the reference count of a non-VACANT message is the number of entries that refer to it, plus
one if it is FILLING, and is never zero. -/
def thirdLaw (s : State) : Prop :=
  ∀ m, (s.messages.read m).isLive →
    (s.messages.read m).refCount = s.entriesOf m + (if (s.messages.read m).state = .filling then 1 else 0)
      ∧ (s.messages.read m).refCount ≠ 0

/-- The fourth law (R86): each in-use entry stands in exactly one queue, once, and no free entry stands in any. -/
def fourthLaw (s : State) : Prop :=
  (allHosts.flatMap s.queues.read).Nodup ∧ ∀ e, (s.entries.read e).inUse ↔ ∃ h, e ∈ s.queues.read h

/-- The fifth law (R87, R88): no queue holds two entries for one message, and only a head is OPENED. -/
def fifthLaw (s : State) : Prop :=
  ∀ h, ((s.queues.read h).map (fun e => (s.entries.read e).message)).Nodup
    ∧ ∀ e ∈ (s.queues.read h).tail, (s.entries.read e).state = .queued

/-- The sixth law (R60): a host has at most one FILLING message, and the publisher of one is JOINED. -/
def sixthLaw (s : State) : Prop :=
  ∀ m, (s.messages.read m).state = .filling →
    s.isJoined (s.messages.read m).publisher
      ∧ ∀ k, (s.messages.read k).state = .filling → (s.messages.read k).publisher = (s.messages.read m).publisher →
          k = m

/-- The seventh law (R27): the keys of non-CLOSED channels are pairwise distinct, and a live count is the number of
non-VACANT messages on the channel. -/
def seventhLaw (s : State) : Prop :=
  (∀ c d, (s.channels.read c).state ≠ .closed → (s.channels.read d).state ≠ .closed →
      (s.channels.read c).key = (s.channels.read d).key → c = d)
    ∧ ∀ c, (s.channels.read c).liveCount = s.liveOn c

/-- The eighth law (R37): a channel is DRAINING only while its live count is above zero. -/
def eighthLaw (s : State) : Prop := ∀ c, (s.channels.read c).state = .draining → 0 < (s.channels.read c).liveCount

/-- The ninth law (R44): a subscription belongs to a JOINED host and an OPEN channel, and its queued count is the number
of entries that name it and within its limit. -/
def ninthLaw (s : State) : Prop :=
  ∀ i, (s.subs.read i).state ≠ .free →
    s.isJoined (s.subs.read i).owner ∧ (s.channels.read (s.subs.read i).channel).state = .opened
      ∧ (s.subs.read i).queued = s.entriesNaming i ∧ (s.subs.read i).queued ≤ (s.subs.read i).limit

/-- The tenth law (R113): while not rationed the turn is NONE and no host claims it; a claimant implies a turn; the
holder is no claimant; holder and claimants are JOINED. -/
def tenthLaw (s : State) : Prop :=
  (s.rationed = false → s.turn = .none ∧ s.claimants = noHosts)
    ∧ (s.claimants ≠ noHosts → s.turn ≠ .none)
    ∧ (∀ h, s.turn.holder = some h → s.claimants.read h = false ∧ s.isJoined h)
    ∧ ∀ h, s.claimants.read h → s.isJoined h

/-- The eleventh law (R160): the voter set of an open vote is non-empty and within the JOINED hosts. -/
def eleventhLaw (s : State) : Prop :=
  ∀ v, s.vote = some v → v.voters ≠ noHosts ∧ ∀ h, v.voters.read h → s.isJoined h

/-- The twelfth law (R168): a notice queue holds at most 16 records. -/
def twelfthLaw (s : State) : Prop := ∀ h, (s.desks.read h).notices.length ≤ Config.noticeQueueSize

/-! ## Facts about the records that the laws rest on

Each of the propositions below is kept by every step on its own; together with the laws they make `Sound`. -/

/-- The part of the tenth law that the turn record keeps by itself (R113): outside rationing no turn and no claimant; a
claimant implies a turn; the holder and every claimant are JOINED. -/
def turnRecordLaw (s : State) : Prop :=
  (s.rationed = false → s.turn = .none ∧ s.claimants = noHosts)
    ∧ (s.claimants ≠ noHosts → s.turn ≠ .none)
    ∧ (∀ h, s.turn.holder = some h → s.isJoined h)
    ∧ ∀ h, s.claimants.read h → s.isJoined h

/-- The Channel Table (R23, R27, R37): a CLOSED slot holds the values of R23; an OPEN or DRAINING one has a key above 0
that no other such slot has, a mode, and a maximum length in range; a DRAINING one has a live message. -/
def channelTableLaw (s : State) : Prop :=
  (∀ c, (s.channels.read c).state = .closed → s.channels.read c = Channel.closed)
    ∧ (∀ c, (s.channels.read c).state ≠ .closed →
        (s.channels.read c).key ≠ 0 ∧ (s.channels.read c).mode ≠ .none ∧ 1 ≤ (s.channels.read c).maxLength
          ∧ (s.channels.read c).maxLength ≤ Config.maxMessage)
    ∧ (∀ c d, (s.channels.read c).state ≠ .closed → (s.channels.read d).state ≠ .closed →
        (s.channels.read c).key = (s.channels.read d).key → c = d)
    ∧ ∀ c, (s.channels.read c).state = .draining → (s.channels.read c).liveCount ≠ 0

/-- The Subscription Table (R42, R44): a FREE record holds the values of R42; any other belongs to a JOINED host and an
OPEN channel, has a policy and a limit in range, and no more queued deliveries than its limit. -/
def subscriptionTableLaw (s : State) : Prop :=
  (∀ i, (s.subs.read i).state = .free → s.subs.read i = Subscription.free)
    ∧ ∀ i, (s.subs.read i).state ≠ .free →
        s.isJoined (s.subs.read i).owner ∧ (s.channels.read (s.subs.read i).channel).state = .opened
          ∧ (s.subs.read i).policy ≠ .none ∧ 1 ≤ (s.subs.read i).limit ∧ (s.subs.read i).limit ≤ Config.maxLimit
          ∧ (s.subs.read i).queued ≤ (s.subs.read i).limit

/-- FILLING messages (R60, R14): the sixth law, and the fact that the hold is the one reference of a FILLING message whose
mode is not STREAMING. -/
def fillingLaw (s : State) : Prop :=
  sixthLaw s ∧ ∀ m, (s.messages.read m).state = .filling → (s.messages.read m).mode ≠ .streaming →
    (s.messages.read m).refCount ≤ 1

/-- A host that is not JOINED (R12, R106, R148, R151, R170): no subscription, an empty delivery queue, no FILLING message,
no turn and no claim, no vote, no notice, no lost count, no lease deadline, and a clear exhausted mark. -/
def departedLaw (s : State) : Prop :=
  ∀ h, s.isJoined h = false →
    (∀ i, (s.subs.read i).state ≠ .free → (s.subs.read i).owner ≠ h) ∧ s.queues.read h = []
      ∧ (∀ m, (s.messages.read m).state = .filling → (s.messages.read m).publisher ≠ h)
      ∧ s.turn.holder ≠ some h ∧ s.claimants.read h = false
      ∧ (∀ v, s.vote = some v → v.voters.read h = false)
      ∧ (s.desks.read h).notices = [] ∧ (s.desks.read h).lost = 0
      ∧ (s.members.read h).leaseDeadline = none ∧ (s.accounts.read h).exhausted = false

/-- One framer (R127, R128, R129, R132, R134, R135): it leaves IDLE only under SEL, its header has at most 12 bytes and
its CRC register is that of the header so far; a header awaiting payload or response is whole; the payload bytes stored
and still expected make up the request's count; a response is pending in RESPONSE_OUT and nowhere else, with no more
bytes to send than it holds, of at most 76; a set void mark means DISCARD or a finished transaction. -/
def framerLaw (l : Link) : Prop :=
  (l.phase ≠ .idle → l.sel = true)
    ∧ (l.phase = .header → l.header.length ≤ 11 ∧ l.crc = crc8 l.header ∧ l.payload = [])
    ∧ (l.phase = .payloadIn → l.header.length = 12 ∧ l.payload.length + l.remaining = l.request.payloadLength)
    ∧ (l.phase = .responseOut →
        l.header.length = 12 ∧ ∃ p, l.pendingResult = some p ∧ l.remaining ≤ p.response.length ∧ p.response.length ≤ 76)
    ∧ (l.phase ≠ .responseOut → l.pendingResult = none)
    ∧ (l.voidMark = true → l.phase = .discard ∨ l.phase = .idle)

/-- Every framer keeps `framerLaw`. -/
def linkLaw (s : State) : Prop := ∀ h, framerLaw (s.links.read h)

/-- The pool and the message records (R1, R5, R6, R7, R8, R13): the first and second laws; a free cell's record is blank;
a VACANT record has no cell; and for any other message the chain from its head has as many cells as its length needs,
ends at its tail, and its cells are full but for the last, which holds the rest. -/
def storageLaw (s : State) : Prop :=
  firstLaw s ∧ secondLaw s ∧ (∀ c ∈ s.freeList, s.cells.read c = CellRec.free)
    ∧ (∀ m, (s.messages.read m).state = .vacant → (s.messages.read m).cellCount = 0)
    ∧ (∀ m, (s.messages.read m).isLive →
        (s.messages.read m).length ≤ Config.maxMessage
          ∧ (s.messages.read m).cellCount = cellsFor (s.messages.read m).length
          ∧ (s.chainOf m).length = (s.messages.read m).cellCount
          ∧ (s.chainOf m).head? = (s.messages.read m).head ∧ (s.chainOf m).getLast? = (s.messages.read m).tail
          ∧ (∀ c ∈ (s.chainOf m).dropLast, (s.cells.read c).used = Config.cellBytes)
          ∧ ∀ c ∈ (s.chainOf m).getLast?,
              s.cells.read c = { next := none, used := tailUsed (s.messages.read m).length })
    ∧ linkLaw s

/-- The entry that the TAKE in flight on a link answers from, where its outcome is DATA or ABORTED (R135). -/
def Link.takesFrom (l : Link) (e : EntryId) : Prop :=
  ∃ p o n last opened, l.pendingResult = some p ∧ p.commit = .take e o n last opened ∧ (o = .data ∨ o = .aborted)

/-- Messages, entries, subscriptions and channels together (R16, R27, R28, R44, R45, R85 to R88, R100): the third, fourth,
fifth, seventh and ninth laws, and the facts that carry them. -/
def deliveryLaw (s : State) : Prop :=
  thirdLaw s ∧ fourthLaw s ∧ fifthLaw s ∧ seventhLaw s ∧ ninthLaw s
    ∧ channelTableLaw s ∧ subscriptionTableLaw s ∧ fillingLaw s ∧ linkLaw s
    ∧ (∀ c, (s.channels.read c).subscriberCount = s.subscribersOn c)
    ∧ (∀ e, (s.entries.read e).inUse = false → s.entries.read e = Entry.free)
    ∧ (∀ e, (s.entries.read e).inUse = true →
        (s.messages.read (s.entries.read e).message).isLive = true
          ∧ (s.entries.read e).offset ≤ (s.messages.read (s.entries.read e).message).length)
    ∧ (∀ m, (s.messages.read m).state = .vacant → s.messages.read m = Message.vacant)
    ∧ (∀ m, (s.messages.read m).isLive → (s.channels.read (s.messages.read m).channel).state ≠ .closed
        ∧ (s.channels.read (s.messages.read m).channel).key = (s.messages.read m).key)
    ∧ (∀ m, (s.messages.read m).state = .filling → (s.channels.read (s.messages.read m).channel).state = .opened)
    ∧ (∀ h, ∀ e ∈ s.queues.read h, ∀ i, (s.entries.read e).subscription = some i →
        (s.subs.read i).state ≠ .free ∧ (s.subs.read i).owner = h
          ∧ (s.subs.read i).channel = (s.messages.read (s.entries.read e).message).channel)
    ∧ (∀ h e, (s.links.read h).takesFrom e → (s.queues.read h).head? = some e ∧ (s.entries.read e).state = .opened)
    ∧ ∀ h p e o n last opened, (s.links.read h).pendingResult = some p → p.commit = .take e o n last opened →
        (opened = true → o = .data ∨ o = .aborted)
          ∧ (o = .data → (s.entries.read e).offset + n ≤ (s.messages.read (s.entries.read e).message).length)
          ∧ (last = true → o = .data ∧ (s.messages.read (s.entries.read e).message).state = .sealed)

/-- Who holds the turn and who fills a message (R113, R116): the tenth law, an IN_USE holder has a FILLING message, and a
GRANTED holder and a claimant have none. -/
def turnLaw (s : State) : Prop :=
  tenthLaw s
    ∧ (∀ h d, s.turn = .inUse h d → (s.fillingOf h).isSome)
    ∧ (∀ h d, s.turn = .granted h d → s.fillingOf h = none)
    ∧ ∀ h, s.claimants.read h → s.fillingOf h = none

/-- Deadlines (R188): the time has passed no deadline of a JOINED host's lease, of the turn or of the open vote. A
deadline that is reached is therefore equal to the time. -/
def deadlineLaw (s : State) : Prop :=
  (∀ h d, s.isJoined h → (s.members.read h).leaseDeadline = some d → s.now ≤ d)
    ∧ (∀ d, s.turn.deadline = some d → s.now ≤ d)
    ∧ ∀ v, s.vote = some v → s.now ≤ v.deadline

/-- A sound state: the twelve laws and everything they rest on. -/
def Sound (s : State) : Prop :=
  storageLaw s ∧ deliveryLaw s ∧ turnLaw s ∧ departedLaw s ∧ eighthLaw s ∧ eleventhLaw s ∧ twelfthLaw s
    ∧ Memory.wf s.pool = true ∧ deadlineLaw s

end Sys2Proof.Machine
end

