-- ==== Sys2Proof/Effects.lean ====
section
/-! DEFINITION. The words the statements are written in: what a link carries, what the end of a transaction leaves on
it, the refusal tables of the requests, and the effects that several commands share, each as the rule that owns it
states it. -/

namespace Sys2Proof.Machine

/-! ## What a link carries -/

/-- Link `h` carries a complete transaction of the request `r`, no read, with its void mark clear: the next deselect
executes it (R134, R137). -/
def State.carriesRequest (s : State) (h : HostId) (r : Request) : Prop :=
  (s.links.read h).phase = .payloadIn ∧ (s.links.read h).remaining = 0 ∧ (s.links.read h).voidMark = false
    ∧ (s.links.read h).request = r

/-- The same, of a request of kind `k`. -/
def State.carries (s : State) (h : HostId) (k : Kind) (r : Request) : Prop :=
  s.carriesRequest h r ∧ r.kind = some k

/-- The same, of a SET of the identifier `i`. -/
def State.carriesSet (s : State) (h : HostId) (i : Ident) (r : Request) : Prop :=
  s.carries h .set r ∧ Ident.ofCode r.a = some i

/-- Link `h` carries a complete transaction of the read kind `k`, answered by `p`: the next deselect commits it
(R137). -/
def State.carriesRead (s : State) (h : HostId) (k : Kind) (p : PendingResult) : Prop :=
  (s.links.read h).phase = .responseOut ∧ (s.links.read h).remaining = 0 ∧ (s.links.read h).voidMark = false
    ∧ (s.links.read h).request.kind = some k ∧ (s.links.read h).pendingResult = some p

/-- Link `h` holds 11 header bytes, which decode to `r`, and the byte `b` is their check (R131, R132). -/
def State.meetsCheck (s : State) (h : HostId) (b : Byte) (r : Request) : Prop :=
  (s.links.read h).phase = .header ∧ (s.links.read h).header.length = 11 ∧ (s.links.read h).crc = b
    ∧ (s.links.read h).request = r

/-- A state with one link replaced. -/
def State.setLink (s : State) (h : HostId) (l : Link) : State := { s with links := s.links.write h l }

/-- A state with what the Notice Unit keeps for one host replaced. -/
def State.setDesk (s : State) (h : HostId) (d : Desk) : State := { s with desks := s.desks.write h d }

/-- A link after its transaction has ended with a result and a last value (R137, R140). -/
def Link.ended (l : Link) (c : ResultCode) (v : Word16) : Link :=
  { l with
    sel := false, selectSeen := true, phase := .idle, payload := [], pendingResult := none
    lastResult := c, lastSerial := l.serial, lastValue := v }

/-- The end of link `h`'s transaction and nothing else: what a refused request leaves (R140). -/
def State.ended (s : State) (h : HostId) (c : ResultCode) (v : Word16) : State :=
  s.setLink h ((s.links.read h).ended c v)

/-- A host record after a good header (R151). -/
def Member.renewed (now : Nat) (m : Member) : Member :=
  if m.state = .joined ∧ m.leasePeriod ≠ 0 then { m with leaseDeadline := some (now + m.leasePeriod) } else m

/-- A link whose header has just been completed by `b`. -/
def Link.headed (l : Link) (b : Byte) : Link := { l with header := l.header ++ [b], crc := crcByte l.crc b }

/-- A good header's event for a read kind answered by `p`, where the answer changes nothing else (R134, R135): the lease
is renewed and the response waits to be shifted out. -/
def State.answered (s : State) (h : HostId) (b : Byte) (p : PendingResult) : State :=
  let l := (s.links.read h).headed b
  { s with
    members := s.members.write h ((s.members.read h).renewed s.now)
    links := s.links.write h
      { l with phase := .responseOut, remaining := p.response.length, pendingResult := some p } }

/-- The deselects of link `h`: the commands that end a transaction. -/
def deselects (h : HostId) : List Instr :=
  [.deselectInDiscard h, .transactionVoid h, .unknownRequest h, .join h, .leave h, .setLeasePeriod h,
    .setAttentionMask h, .setCreditThreshold h, .setReserveThreshold h, .setTurnWindow h, .setVoteWindow h,
    .setPrecedence h, .setQuotaCeiling h, .setReadOnlyValue h, .voteClear h, .ack h, .fetchNoticeCommit h,
    .readCounterCommit h, .getCommit h, .findChannelCommit h, .takeCommit h, .openChannel h, .closeChannel h,
    .subscribe h, .unsubscribe h, .suspend h, .resume h, .begin h, .put h, .sealMsg h, .abort h, .skip h]

/-! ## Refusal tables

Each is the table of the rule named, in its order: a request is refused at the first condition that holds. -/

/-- The result at the first condition that holds. -/
def firstRefusal : List (Bool × ResultCode) → Option ResultCode
  | [] => none
  | (c, r) :: rest => if c then some r else firstRefusal rest

/-- An OPEN or DRAINING slot that holds a key above 0. -/
def State.holdsKey (s : State) (k : Word16) (c : ChanId) : Bool :=
  k != 0 && (s.channels.read c).state != .closed && (s.channels.read c).key == k

/-- Whether some slot holds the key in a given state. -/
def State.keyIs (s : State) (k : Word16) (x : ChanState) : Bool :=
  (List.finRange 32).any (fun c => s.holdsKey k c && (s.channels.read c).state == x)

/-- JOIN's table (R149). -/
def joinRefusals (s : State) (h : HostId) (r : Request) : List (Bool × ResultCode) :=
  [ (s.isJoined h, .busy),
    (!(r.a == 0 || (decide (10 ≤ r.a.toNat) && decide (r.a.toNat ≤ 60000))) || r.b == 0
      || !(decide (1 ≤ r.c.toNat) && decide (r.c.toNat ≤ 64)), .badRequest) ]

/-- OPEN_CHANNEL's table (R32). -/
def openRefusals (s : State) (h : HostId) (r : Request) : List (Bool × ResultCode) :=
  [ (!s.isJoined h, .notJoined),
    (r.key == 0, .badKey),
    (r.a == 0 || decide (2048 < r.a.toNat) || (r.c != 1 && r.c != 2) || decide (16 ≤ r.b.toNat), .badRequest),
    (s.keyIs r.key .opened, .channelExists),
    (s.keyIs r.key .draining, .busy),
    ((List.finRange 32).all (fun c => (s.channels.read c).state != .closed), .tableFull) ]

/-- CLOSE_CHANNEL's table (R34), for the slot that holds the key. -/
def closeRefusals (s : State) (h : HostId) (r : Request) : List (Bool × ResultCode) :=
  [ (!s.isJoined h, .notJoined),
    (r.key == 0, .badKey),
    (!(s.keyIs r.key .opened || s.keyIs r.key .draining), .noChannel),
    (s.keyIs r.key .draining, .busy),
    ((List.finRange 32).any (fun c =>
      s.holdsKey r.key c && (s.channels.read c).creator.isSome && (s.channels.read c).creator != some h),
      .notPermitted) ]

/-- SUBSCRIBE's table (R46). -/
def subscribeRefusals (s : State) (h : HostId) (r : Request) : List (Bool × ResultCode) :=
  [ (!s.isJoined h, .notJoined),
    (r.key == 0, .badKey),
    (!(s.keyIs r.key .opened || s.keyIs r.key .draining), .noChannel),
    (s.keyIs r.key .draining, .busy),
    (r.c == 0 || decide (64 < r.c.toNat) || (r.d &&& 3 != 1 && r.d &&& 3 != 2) || decide (8 ≤ r.d.toNat), .badRequest),
    ((List.finRange 64).all (fun i => (s.subs.read i).state != .free), .tableFull) ]

/-- Whether the record an index names is a subscription of the host. -/
def State.ownsIndex (s : State) (h : HostId) (a : Word16) : Bool :=
  (List.finRange 64).any (fun i => i.val == a.toNat && (s.subs.read i).state != .free && (s.subs.read i).owner == h)

/-- UNSUBSCRIBE's table (R48). -/
def unsubscribeRefusals (s : State) (h : HostId) (r : Request) : List (Bool × ResultCode) :=
  [ (!s.isJoined h, .notJoined), (decide (2 ≤ r.d.toNat), .badRequest), (!s.ownsIndex h r.a, .badIndex) ]

/-- The table of SUSPEND and RESUME (R51, R52). -/
def restRefusals (s : State) (h : HostId) (r : Request) : List (Bool × ResultCode) :=
  [ (!s.isJoined h, .notJoined), (!s.ownsIndex h r.a, .badIndex) ]

/-- Whether a host has a FILLING message (R60). -/
def State.isFilling (s : State) (h : HostId) : Bool :=
  (List.finRange 128).any (fun m => (s.messages.read m).state == .filling && (s.messages.read m).publisher == h)

/-- Conditions 1 to 9 of BEGIN's table (R62). -/
def beginRefusals (s : State) (h : HostId) (r : Request) : List (Bool × ResultCode) :=
  [ (!s.isJoined h, .notJoined),
    (r.key == 0, .badKey),
    (decide (2 ≤ r.d.toNat), .badRequest),
    (!(s.keyIs r.key .opened || s.keyIs r.key .draining), .noChannel),
    (s.keyIs r.key .draining, .busy),
    ((List.finRange 32).any (fun c =>
      s.holdsKey r.key c && (s.channels.read c).publishSet != noHosts && !(s.channels.read c).publishSet.read h),
      .notPermitted),
    (s.isFilling h, .busy),
    ((List.finRange 32).any (fun c =>
      s.holdsKey r.key c && r.d.getLsbD 0 && decide ((s.channels.read c).maxLength < r.b.toNat)), .length),
    ((List.finRange 128).all (fun m => (s.messages.read m).state != .vacant), .noRecord) ]

/-- Conditions 1 to 3 of PUT's table (R67). -/
def putRefusals (s : State) (h : HostId) (r : Request) : List (Bool × ResultCode) :=
  [ (!s.isJoined h, .notJoined), (r.a == 0 || decide (64 < r.a.toNat), .badRequest), (!s.isFilling h, .noMessage) ]

/-- Conditions 4 and 5 of PUT's table (R67, R68), for the host's FILLING message. -/
def putLimits (s : State) (h : HostId) (m : MsgId) (n : Nat) : List (Bool × ResultCode) :=
  let x := s.messages.read m
  let k := (x.length + n + 63) / 64 - (x.length + 63) / 64
  [ ((match x.declared with
      | some d => decide (d < x.length + n)
      | none => false)
      || decide ((s.channels.read x.channel).maxLength < x.length + n) || decide (2048 < x.length + n), .length),
    (decide (0 < k) && (decide (s.freeList.length < k)
      || decide ((s.accounts.read h).quota < (s.accounts.read h).charge + k)), .noCell) ]

/-- The table of SEAL up to its check 3, and of ABORT (R73, R79). -/
def endRefusals (s : State) (h : HostId) : List (Bool × ResultCode) :=
  [ (!s.isJoined h, .notJoined), (!s.isFilling h, .noMessage) ]

/-- SET's table (R158), for a parameter, its range, and whether it is exchange-wide. -/
def setRefusals (s : State) (h : HostId) (inRange shared : Bool) : List (Bool × ResultCode) :=
  [ (!s.isJoined h, .notJoined),
    (!inRange, .badRequest),
    (shared && ((List.finRange 32).any (fun c => (s.channels.read c).state != .closed) || s.vote.isSome), .busy) ]

/-! ## Shared effects -/

/-- What the Notice Unit keeps for a host after a link fault (R141): LINK_ERROR latched, LINK_ERRORS advanced. -/
def Desk.faulted (d : Desk) : Desk :=
  let n := d.counters.linkErrors
  { d with
    latches := { d.latches with linkError := true }
    counters := { d.counters with linkErrors := if n = 65535#16 then n else n + 1 } }

/-- What the Notice Unit keeps for a host after TURN is latched for it (R112, R118). -/
def Desk.turnLatched (d : Desk) : Desk := { d with latches := { d.latches with turn := true } }

/-- What the Notice Unit keeps for a host for which CREDIT and TURN may have been latched (R11, R112). -/
def Desk.signalled (d : Desk) (credit turn : Bool) : Desk :=
  { d with latches := { d.latches with credit := d.latches.credit || credit, turn := d.latches.turn || turn } }

/-- Whether the turn is GRANTED to a host. -/
def Turn.isGrantedTo (t : Turn) (h : HostId) : Bool :=
  match t with
  | .granted g _ => g == h
  | _ => false

/-- A 32-bit counter one further, or at its bound (R178). -/
def counted (n : BitVec 32) : BitVec 32 := if n = 4294967295#32 then n else n + 1

/-- The notices a host has, and how many it has lost, after a notice is posted to it (R168); NOTICE is latched. -/
def Desk.posted (d : Desk) (n : Notice) : Desk :=
  { d with
    notices := if d.notices.length < 16 then d.notices ++ [n] else d.notices
    lost := if d.notices.length < 16 then d.lost else min (d.lost + 1) 255
    latches := { d.latches with notice := true } }

/-- The rationed flag after a re-evaluation (R109). -/
def rationedAfter (s : State) (free : Nat) : Bool :=
  if s.rationed then decide (free < s.params.reserveThreshold + 16) else decide (free ≤ s.params.reserveThreshold)

/-- The exhausted mark after a change of its JOINED host's credit, by the table of R11. -/
def markAfter (mark : Bool) (credit threshold : Nat) : Bool := credit == 0 || (mark && decide (credit < threshold))

/-- A notice posted to one host (R168): kept or counted as lost for a JOINED host, discarded for any other. -/
def State.told (s : State) (h : HostId) (n : Notice) : State :=
  if s.isJoined h = true then s.setDesk h ((s.desks.read h).posted n) else s

/-- A notice posted to every JOINED host, and nothing else. -/
def ToldAll (n : Notice) (s t : State) : Prop :=
  t = { s with desks := t.desks }
    ∧ ∀ g, t.desks.read g = if s.isJoined g = true then (s.desks.read g).posted n else s.desks.read g

/-- A turn that has ended (R117, R118): the next claimant is GRANTED it with a fresh deadline and TURN latched, and with
no claimant the turn is NONE. -/
def State.turnPassed (s : State) : State :=
  match s.nextClaimant with
  | some n =>
    { s with
      turn := .granted n (s.now + s.params.turnWindow), claimants := HostSet.erase s.claimants n
      desks := s.desks.write n (s.desks.read n).turnLatched }
  | none => { s with turn := .none }

/-- The turn ends if a host holds it IN_USE (R77). -/
def State.turnEnded (s : State) (h : HostId) : State :=
  match s.turn with
  | .inUse g _ => if g = h then s.turnPassed else s
  | _ => s

/-- An event's parts, one for each item of a list, in its order, each whole before the next (R20). -/
def Chain {α : Type} (part : α → State → State → Prop) : List α → State → State → Prop
  | [], s, t => t = s
  | a :: rest, s, t => ∃ u, part a s u ∧ Chain part rest u t

/-- A message is freed (R19), and nothing else happens. In the order of the fields: the record is VACANT; the chain joins
the tail of the free list, each cell blank; the publisher's charge falls and its exhausted mark is judged (R11), which
may latch CREDIT; the channel has one live message less and is CLOSED if that ends its drain; a freeing with a chain
re-evaluates the rationed flag (R110), and an end of rationing clears the turn record and latches TURN (R112). -/
structure Freed (m : MsgId) (s t : State) : Prop where
  messages : t.messages = s.messages.write m Message.vacant
  freeList : t.freeList = s.freeList ++ s.chainOf m
  cells : ∀ c, t.cells.read c = if c ∈ s.chainOf m then CellRec.free else s.cells.read c
  quota : ∀ h, (t.accounts.read h).quota = (s.accounts.read h).quota
  charge : ∀ h, (t.accounts.read h).charge =
    if h = (s.messages.read m).publisher then (s.accounts.read h).charge - (s.messages.read m).cellCount
    else (s.accounts.read h).charge
  mark : ∀ h, (t.accounts.read h).exhausted =
    if s.isJoined h = true ∧ t.credit h ≠ s.credit h then
      (s.accounts.read h).exhausted && decide (t.credit h < (s.members.read h).creditThreshold)
    else (s.accounts.read h).exhausted
  channels : ∀ c, t.channels.read c =
    if c ≠ (s.messages.read m).channel then s.channels.read c
    else if (s.channels.read c).state = .draining ∧ (s.channels.read c).liveCount ≤ 1 then Channel.closed
    else { s.channels.read c with liveCount := (s.channels.read c).liveCount - 1 }
  rationed : t.rationed =
    if s.chainOf m = [] then s.rationed else rationedAfter s (s.freeList.length + (s.chainOf m).length)
  turn : t.turn = if s.rationed = true ∧ t.rationed = false then .none else s.turn
  claimants : t.claimants = if s.rationed = true ∧ t.rationed = false then noHosts else s.claimants
  desks : ∀ h, t.desks.read h = (s.desks.read h).signalled
    ((s.accounts.read h).exhausted && !(t.accounts.read h).exhausted)
    (s.rationed && !t.rationed && (s.claimants.read h || s.turn.isGrantedTo h))
  frame : t.pending = s.pending ∧ t.now = s.now ∧ t.resetAsserted = s.resetAsserted ∧ t.pool = s.pool
    ∧ t.subs = s.subs ∧ t.entries = s.entries ∧ t.queues = s.queues ∧ t.lastServed = s.lastServed
    ∧ t.members = s.members ∧ t.params = s.params ∧ t.vote = s.vote ∧ t.links = s.links

/-- A reference to a message is released or a hold dropped (R17, R18): its count falls by one, and at 0 it is freed. -/
def Released (m : MsgId) (s t : State) : Prop :=
  let x := s.messages.read m
  let u := { s with messages := s.messages.write m { x with refCount := x.refCount - 1 } }
  if (s.messages.read m).refCount - 1 = 0 then Freed m u t else t = u

/-- A FILLING message is aborted (R80, R77, R78): a STREAMING one becomes ABORTED, the hold is dropped, the publisher's
ABORTED advances, and a turn it holds IN_USE ends. -/
def Aborted (m : MsgId) (s t : State) : Prop :=
  let x := s.messages.read m
  let y : Message := { x with state := if x.mode = .streaming then .aborted else x.state }
  ∃ v, Released m { s with messages := s.messages.write m y } v
    ∧ t = (v.setDesk x.publisher
        { v.desks.read x.publisher with
          counters := { (v.desks.read x.publisher).counters with
            aborted := counted (v.desks.read x.publisher).counters.aborted } }).turnEnded x.publisher

/-- A subscription is freed (R45, R49): its record is FREE, its channel has one subscriber less, and the entries that
name it lose that field. -/
def Unsubscribed (i : SubId) (s t : State) : Prop :=
  let c := (s.subs.read i).channel
  t = { s with
      subs := s.subs.write i Subscription.free
      channels := s.channels.write c
        { s.channels.read c with subscriberCount := (s.channels.read c).subscriberCount - 1 }
      entries := t.entries }
    ∧ ∀ e, t.entries.read e = if (s.entries.read e).subscription = some i then
        { s.entries.read e with subscription := none } else s.entries.read e

/-- A close aborts one FILLING message and tells its publisher (R35). -/
def CloseAborted (m : MsgId) (s t : State) : Prop :=
  let x := s.messages.read m
  ∃ u, Aborted m s u ∧ t = u.told x.publisher (.messageAborted x.key x.sequence)

/-- A close frees one subscription and tells its owner (R36). -/
def CloseUnsubscribed (key : Word16) (i : SubId) (s t : State) : Prop :=
  ∃ u, Unsubscribed i s u ∧ t = u.told (s.subs.read i).owner (.channelClosed key i)

/-- An entry is removed from a host's queue (R100, R101, R105, R106): it is free, the queue goes on without it, the
subscription it names has one delivery less, and its reference is released. -/
def Removed (h : HostId) (e : EntryId) (s t : State) : Prop :=
  let subs := match (s.entries.read e).subscription with
    | some i => s.subs.write i { s.subs.read i with queued := (s.subs.read i).queued - 1 }
    | none => s.subs
  Released (s.entries.read e).message
    { s with queues := s.queues.write h ((s.queues.read h).erase e), entries := s.entries.write e Entry.free, subs := subs }
    t

/-- A delivery is appended to a host's queue (R93), in entry `e`. -/
def State.appended (s : State) (h : HostId) (m : MsgId) (i : SubId) (e : EntryId) : State :=
  let x := s.messages.read m
  let y := s.subs.read i
  let d := s.desks.read h
  { s with
    entries := s.entries.write e { inUse := true, message := m, subscription := some i, offset := 0, state := .queued }
    queues := s.queues.write h (s.queues.read h ++ [e])
    messages := s.messages.write m { x with refCount := x.refCount + 1 }
    subs := s.subs.write i { y with queued := y.queued + 1 }
    desks := s.desks.write h { d with latches := { d.latches with delivery := true } } }

/-- The desk of a reader after a dropped delivery is reported to it (R94). -/
def Desk.dropped (d : Desk) (joined : Bool) (n : Notice) : Desk :=
  let c : Desk := { d with counters := { d.counters with dropped := counted d.counters.dropped } }
  if joined then c.posted n else c

/-- A link after a teardown or an exchange clear (R139): a transaction in flight is void and its framer in DISCARD. -/
def Link.cutOff (l : Link) : Link :=
  if l.phase = .header ∨ l.phase = .payloadIn ∨ l.phase = .responseOut then
    { l with
      phase := .discard, payload := [], pendingResult := none, voidMark := true, lastResult := .void
      lastSerial := l.serial, lastValue := 0 }
  else l

/-- The exchange clear (R163). That `links` voids a complete JOIN in flight too is the model's reading
(notes/assumptions/15.md), and so is it that the pool's data bytes stay (notes/assumptions/6.md). -/
structure Cleared (s t : State) : Prop where
  pool : (∀ c, t.cells.read c = CellRec.free) ∧ t.freeList = List.finRange 512
  accounts : ∀ h, t.accounts.read h = { quota := (s.accounts.read h).quota, charge := 0, exhausted := false }
  tables : (∀ m, t.messages.read m = Message.vacant) ∧ (∀ c, t.channels.read c = Channel.closed)
    ∧ (∀ i, t.subs.read i = Subscription.free) ∧ (∀ e, t.entries.read e = Entry.free) ∧ ∀ h, t.queues.read h = []
  turn : t.turn = .none ∧ t.claimants = noHosts ∧ t.lastServed = none ∧ t.rationed = rationedAfter s 512
  vote : t.vote = none
  links : ∀ h, t.links.read h = (s.links.read h).cutOff
  desks : ∀ h, t.desks.read h =
    if s.isJoined h = true then
      { notices := [.exchangeCleared], lost := 0, counters := Counters.zero
        latches := { Latches.clear with notice := true, ready := true } }
    else { notices := [], lost := 0, counters := Counters.zero, latches := Latches.clear }
  frame : t.pending = s.pending ∧ t.now = s.now ∧ t.resetAsserted = s.resetAsserted ∧ t.pool = s.pool
    ∧ t.members = s.members ∧ t.params = s.params

/-- An open vote is judged (R162): an empty voter set fails it, the set of the JOINED hosts completes it, and any other
leaves it open. -/
def VoteJudged (s t : State) : Prop :=
  match s.vote with
  | none => t = s
  | some v =>
    if ∀ g, v.voters.read g = false then ToldAll .voteFailed { s with vote := none } t
    else if ∀ g, v.voters.read g = s.isJoined g then Cleared { s with vote := none } t
    else t = s

/-- Steps 1 to 9 of the teardown of a host (R154), in their order. -/
def Dismantled (h : HostId) (final : Membership) (s t : State) : Prop :=
  let subs := (List.finRange 64).filter (fun i => (s.subs.read i).state != .free && (s.subs.read i).owner == h)
  ∃ a b c, Chain Unsubscribed subs s a ∧ Chain (Removed h) (s.queues.read h) a b
    ∧ (∀ m, b.fillingOf h = some m → Aborted m b c) ∧ (b.fillingOf h = none → c = b)
    ∧ (let u := { c with claimants := HostSet.erase c.claimants h }
      let d := if u.turn.holder = some h then u.turnPassed else u
      t = { d with
          channels := t.channels
          desks := d.desks.write h { d.desks.read h with notices := [], lost := 0, latches := Latches.clear }
          links := d.links.write h (d.links.read h).cutOff
          members := d.members.write h { d.members.read h with state := final, leaseDeadline := none }
          accounts := d.accounts.write h { d.accounts.read h with exhausted := false } }
        ∧ ∀ k, t.channels.read k = if (d.channels.read k).state ≠ .closed ∧ (d.channels.read k).creator = some h then
            { d.channels.read k with creator := none } else d.channels.read k)

/-- The teardown of a host (R154, R155), with its final state and the notice to the others: its eleven steps (`steps`),
and what they come to for the host, for the others, and for a vote that is open. -/
structure TornDown (h : HostId) (final : Membership) (n : Notice) (s t : State) : Prop where
  steps : ∃ u w, Dismantled h final s u
    ∧ VoteJudged { u with vote := u.vote.map (fun v => { v with voters := HostSet.erase v.voters h }) } w ∧ ToldAll n w t
  members : t.members = s.members.write h { s.members.read h with state := final, leaseDeadline := none }
  subs : ∀ i, (s.subs.read i).owner = h → (t.subs.read i).state = .free
  queue : t.queues.read h = []
  filling : fillingLaw s → ∀ m, (t.messages.read m).state = .filling → (t.messages.read m).publisher ≠ h
  turn : t.turn.holder ≠ some h ∧ t.claimants.read h = false
  creators : ∀ c, (t.channels.read c).state ≠ .closed → (t.channels.read c).creator ≠ some h
  desk : (t.desks.read h).notices = [] ∧ (t.desks.read h).lost = 0 ∧ (t.desks.read h).latches = Latches.clear
  mark : (t.accounts.read h).exhausted = false
  quota : ∀ g, (t.accounts.read g).quota = (s.accounts.read g).quota
  others : s.vote = none → t.vote = none ∧ ∀ g, g ≠ h →
    t.links.read g = s.links.read g ∧ t.queues.read g = s.queues.read g
      ∧ (t.desks.read g).counters = (s.desks.read g).counters
      ∧ ((t.desks.read g).notices, (t.desks.read g).lost) =
          if s.isJoined g = true then (((s.desks.read g).posted n).notices, ((s.desks.read g).posted n).lost)
          else ((s.desks.read g).notices, (s.desks.read g).lost)
  counters : s.vote = none → s.queues.read h = [] ∨ deliveryLaw s → (t.desks.read h).counters =
    if s.isFilling h then
      { (s.desks.read h).counters with aborted := counted (s.desks.read h).counters.aborted }
    else (s.desks.read h).counters
  voteFails : ∀ v, s.vote = some v → (∀ g, g ≠ h → v.voters.read g = false) →
    t.vote = none ∧ ∀ g, g ≠ h → s.isJoined g = true →
      let d := ((s.desks.read g).posted .voteFailed).posted n
      (t.desks.read g).notices = d.notices ∧ (t.desks.read g).lost = d.lost
  voteClears : ∀ v, s.vote = some v → (∃ g, g ≠ h ∧ v.voters.read g = true) →
    (∀ g, g ≠ h → v.voters.read g = s.isJoined g) →
    t.vote = none ∧ t.freeList = List.finRange 512 ∧ (∀ m, t.messages.read m = Message.vacant)
      ∧ (∀ c, t.channels.read c = Channel.closed) ∧ (∀ g, (t.desks.read g).counters = Counters.zero)
      ∧ ∀ g, g ≠ h → s.isJoined g = true →
        (t.desks.read g).notices = [.exchangeCleared, n]
          ∧ (t.desks.read g).latches = { Latches.clear with notice := true, ready := true }
  voteStays : ∀ v x y, s.vote = some v → x ≠ h → v.voters.read x = true → y ≠ h → s.isJoined y = true →
    v.voters.read y = false → t.vote = some { v with voters := HostSet.erase v.voters h }
  frame : t.pending = s.pending ∧ t.now = s.now ∧ t.resetAsserted = s.resetAsserted ∧ t.pool = s.pool
    ∧ t.params = s.params

end Sys2Proof.Machine
end

