-- ==== Sys2Proof/Certificates/Slice0/Obligations.lean ====
section
/-! DEFINITION. The statements about the exchange, in the words of Sys2Proof/Safety.lean and Sys2Proof/Effects.lean. -/

open Sys2Proof Sys2Proof.Machine

/-! ## The machine -/

/-- A step carries out the command at the front of the queue. That it idles on an empty one is the model's choice
(notes/assumptions/1.md). -/
def Obligations.StepTakesFrontCommand : Prop :=
  (∀ (c : Instr) (rest : List Instr) (s : State), s.pending = c :: rest → step s = exec c { s with pending := rest })
    ∧ ∀ s : State, s.pending = [] → step s = .next s

/-- No command touches the queue, which is the model's own, a device reset keeping the commands that wait
(notes/assumptions/1.md). The time changes at its own step and at the end of a reset alone (R188); that DEVICE_RESET
keeps it is the model's reading (notes/assumptions/8.md). -/
def Obligations.ExecKeepsQueueAndTime : Prop :=
  ∀ (c : Instr) (s t : State), exec c s = .next t →
    t.pending = s.pending ∧ (c ≠ .millisecondTimeStep → c ≠ .resetRelease → t.now = s.now)

/-- Which commands beside device reset write the parameters, the quota, the host states and the last link error (R9,
R141, R147, R148, R157). -/
def Obligations.SlowRegistersHaveFewWriters : Prop :=
  ∀ (c : Instr) (s t : State), exec c s = .next t → c ≠ .deviceReset →
    ((∀ g, c ≠ .setReserveThreshold g ∧ c ≠ .setTurnWindow g ∧ c ≠ .setVoteWindow g ∧ c ≠ .setPrecedence g
        ∧ c ≠ .setQuotaCeiling g) → t.params = s.params)
      ∧ ∀ h,
        (c ≠ .setAttentionMask h → (t.members.read h).mask = (s.members.read h).mask)
          ∧ (c ≠ .join h → (t.accounts.read h).quota = (s.accounts.read h).quota)
          ∧ (c ≠ .join h → c ≠ .setCreditThreshold h →
              (t.members.read h).creditThreshold = (s.members.read h).creditThreshold)
          ∧ (c ≠ .join h → c ≠ .setLeasePeriod h → (t.members.read h).leasePeriod = (s.members.read h).leasePeriod)
          ∧ (c ≠ .join h → c ≠ .leave h → c ≠ .leaseExpiry h → (t.members.read h).state = (s.members.read h).state)
          ∧ ((∀ b, c ≠ .headerBadCheck h b) → c ≠ .transactionVoid h →
              (t.links.read h).lastFault = (s.links.read h).lastFault
                ∧ (t.links.read h).faultSerial = (s.links.read h).faultSerial)

/-! ## Reset and time -/

/-- What reset leaves in the Cell Pool and its accounts (R2, R9), the tables (R13, R23, R42, R85), the arbiter (R109,
R113), the framers (R128), the hosts, parameters and vote (R147, R157, R160), the notice queues, lost counts, counters,
latches and ATN (R165, R170, R174, R175, R179), and the time (R188). The M0 in the message field of a free entry is the
model's choice (notes/assumptions/7.md). -/
def Obligations.ResetValues : Prop :=
  let s := State.reset
  s.now = 0 ∧ s.freeList = List.finRange 512 ∧ (∀ c, s.cells.read c = CellRec.free)
    ∧ (∀ h, s.accounts.read h = { quota := 0, charge := 0, exhausted := false })
    ∧ (∀ m, s.messages.read m = Message.vacant) ∧ (∀ c, s.channels.read c = Channel.closed)
    ∧ (∀ i, s.subs.read i = Subscription.free) ∧ (∀ e, s.entries.read e = Entry.free) ∧ (∀ h, s.queues.read h = [])
    ∧ s.rationed = false ∧ s.turn = .none ∧ s.claimants = noHosts ∧ s.lastServed = none ∧ s.vote = none
    ∧ s.params = { reserveThreshold := 32, turnWindow := 20, voteWindow := 500, precedence := false, quotaCeiling := 256 }
    ∧ (∀ h, s.members.read h =
        { state := .detached, leasePeriod := 0, leaseDeadline := none, creditThreshold := 1, mask := Mask.clear })
    ∧ (∀ h, (s.desks.read h).notices = [] ∧ (s.desks.read h).lost = 0 ∧ (s.desks.read h).counters = Counters.zero
        ∧ (s.desks.read h).latches = { Latches.clear with ready := true } ∧ s.atn h = true)
    ∧ ∀ h, (s.links.read h).phase = .idle ∧ (s.links.read h).header = [] ∧ (s.links.read h).remaining = 0
        ∧ (s.links.read h).payload = [] ∧ (s.links.read h).pendingResult = none ∧ (s.links.read h).voidMark = false
        ∧ (s.links.read h).lastResult = .noRequest ∧ (s.links.read h).lastSerial = 0 ∧ (s.links.read h).lastValue = 0
        ∧ (s.links.read h).lastFault = .none ∧ (s.links.read h).faultSerial = 0

/-- DEVICE_RESET (R165): whatever the state, the tables, hosts, parameters, counters and latches of `State.reset`, every
framer IDLE with the values of R128, the last link error NONE among them, and the status block of the manual on every
link. That the pool's bytes stay is the model's reading of R1 (notes/assumptions/6.md), that the time and the SEL pins
stay is its reading of R188 and R165 (notes/assumptions/8.md), and the waiting commands are its own queue
(notes/assumptions/1.md). -/
def Obligations.DeviceResetRestoresStart : Prop :=
  ∀ s : State, ∃ t, exec .deviceReset s = .next t
    ∧ t.resetAsserted = true ∧ t.now = s.now ∧ t.pool = s.pool ∧ t.pending = s.pending
    ∧ t.cells = State.reset.cells ∧ t.freeList = State.reset.freeList ∧ t.accounts = State.reset.accounts
    ∧ t.messages = State.reset.messages ∧ t.channels = State.reset.channels ∧ t.subs = State.reset.subs
    ∧ t.entries = State.reset.entries ∧ t.queues = State.reset.queues ∧ t.rationed = false ∧ t.turn = .none
    ∧ t.claimants = noHosts ∧ t.lastServed = none ∧ t.members = State.reset.members ∧ t.params = Params.default
    ∧ t.vote = none ∧ t.desks = State.reset.desks
    ∧ ∀ h, t.statusBlock h = [0x00, 0x20, 0, 0, 0, 0, 0x02, 0x00, 0, 0, 0, 0] ∧ t.atn h = true
        ∧ (t.links.read h).phase = .idle ∧ (t.links.read h).sel = (s.links.read h).sel
        ∧ (t.links.read h).pendingResult = none ∧ (t.links.read h).payload = [] ∧ (t.links.read h).header = []
        ∧ (t.links.read h).voidMark = false ∧ (t.links.read h).remaining = 0
        ∧ (t.links.read h).lastFault = .none ∧ (t.links.read h).faultSerial = 0

/-- RESET_RELEASE (R128, R165, R188): the time begins at 0, and a framer has seen SEL deasserted where it is; a release
of a RESET that is not asserted is no event (notes/assumptions/4.md). MILLISECOND_TIME_STEP (R188): the time advances
while RESET is deasserted and stands still while it is asserted; it does not advance past a deadline whose expiry has not
been taken, since an expiry comes at the step on which the time first equals its deadline: such a time step is no event
(notes/assumptions/1.md, notes/assumptions/4.md). -/
def Obligations.ResetReleaseAndTime : Prop :=
  (∀ s : State, s.resetAsserted = true → ∃ t, exec .resetRelease s = .next t
    ∧ t = { s with resetAsserted := false, now := 0, links := t.links }
    ∧ ∀ h, t.links.read h = { s.links.read h with selectSeen := !(s.links.read h).sel })
  ∧ (∀ s : State, s.resetAsserted = false → exec .resetRelease s = .refused .notThatEvent)
  ∧ (∀ s : State, s.resetAsserted = true → exec .millisecondTimeStep s = .next s)
  ∧ (∀ s : State, s.resetAsserted = false →
      (∀ h d, s.isJoined h = true → (s.members.read h).leaseDeadline = some d → s.now < d) →
      (∀ d, s.turn.deadline = some d → s.now < d) → (∀ v, s.vote = some v → s.now < v.deadline) →
      exec .millisecondTimeStep s = .next { s with now := s.now + 1 })
  ∧ ∀ s : State, s.resetAsserted = false →
      ((∃ h d, s.isJoined h = true ∧ (s.members.read h).leaseDeadline = some d ∧ d ≤ s.now)
        ∨ (∃ d, s.turn.deadline = some d ∧ d ≤ s.now) ∨ ∃ v, s.vote = some v ∧ v.deadline ≤ s.now) →
      exec .millisecondTimeStep s = .refused .notThatEvent

/-! ## The framer -/

/-- SEL_ASSERTED (R129): a transaction begins and the status block is sampled; where none can begin, because SEL has not
been seen deasserted or RESET is asserted (R129, R165), the pin alone changes. SELECT_SEEN (R129): the flag is set. An
assertion of an asserted line, and a deassertion seen on a deasserted one, is no event (notes/assumptions/4.md). -/
def Obligations.SelectsBeginTransactions : Prop :=
  ∀ (s : State) (h : HostId),
    let l := s.links.read h
    (l.sel = false → l.phase = .idle → l.selectSeen = true → s.resetAsserted = false →
      exec (.selAsserted h) s = .next (s.setLink h
        { l with
          sel := true, phase := .header, header := [], crc := 0, payload := [], pendingResult := none
          voidMark := false, statusCopy := s.statusBlock h }))
    ∧ (l.sel = false → l.selectSeen = false ∨ s.resetAsserted = true →
      exec (.selAsserted h) s = .next (s.setLink h { l with sel := true }))
    ∧ (l.sel = true → l.phase = .idle →
      exec (.selectSeen h) s = .next (s.setLink h { l with sel := false, selectSeen := true }))
    ∧ (l.sel = true → exec (.selAsserted h) s = .refused .notThatEvent)
    ∧ (l.sel = false → exec (.selectSeen h) s = .refused .notThatEvent)

/-- What a status block says (R130, R184, R87), byte by byte, with the codes of the link state and of the last result; the
queued deliveries saturate at 255. -/
def Obligations.StatusBlockBytes : Prop :=
  ∀ (s : State) (h : HostId), (s.desks.read h).notices.length < 256 →
    s.credit h < 65536 → s.freeList.length < 65536 →
    let results : List (ResultCode × Nat) :=
      [ (.noRequest, 0x00), (.ok, 0x01), (.empty, 0x02), (.wait, 0x03), (.void, 0x04), (.notJoined, 0x10),
        (.badRequest, 0x11), (.badKey, 0x12), (.badIndex, 0x13), (.noChannel, 0x14), (.channelExists, 0x15),
        (.busy, 0x16), (.notPermitted, 0x17), (.tableFull, 0x18), (.length, 0x19), (.noRecord, 0x1A),
        (.noMessage, 0x1B), (.noCell, 0x1C) ]
    ∃ b0 b1 b2 b3 b4 b5 b6 b7 b8 b9 b10 b11 : Byte,
    s.statusBlock h = [b0, b1, b2, b3, b4, b5, b6, b7, b8, b9, b10, b11]
      ∧ b0.toNat % 4 = (match (s.members.read h).state with
        | .detached => 0
        | .joined => 1
        | .lapsed => 2)
      ∧ b0.getLsbD 2 = s.rationed ∧ b0.getLsbD 3 = (s.turn.holder == some h) ∧ b0.getLsbD 4 = s.vote.isSome
      ∧ b0.toNat < 32
      ∧ b1.getLsbD 0 = (s.desks.read h).latches.delivery ∧ b1.getLsbD 1 = (s.desks.read h).latches.notice
      ∧ b1.getLsbD 2 = (s.desks.read h).latches.credit ∧ b1.getLsbD 3 = (s.desks.read h).latches.turn
      ∧ b1.getLsbD 4 = (s.desks.read h).latches.linkError ∧ b1.getLsbD 5 = (s.desks.read h).latches.ready
      ∧ b1.toNat < 64
      ∧ b2.toNat = (if (s.queues.read h).length < 255 then (s.queues.read h).length else 255)
      ∧ b3.toNat = (s.desks.read h).notices.length
      ∧ 256 * b4.toNat + b5.toNat = s.credit h ∧ 256 * b6.toNat + b7.toNat = s.freeList.length
      ∧ ((s.links.read h).lastResult, b8.toNat) ∈ results ∧ b9 = (s.links.read h).lastSerial
      ∧ 256 * b10.toNat + b11.toNat = (s.links.read h).lastValue.toNat

/-- What is on SDO (R127, R129, R133, R136): the status copy byte by byte, the response byte by byte, zeros during a
payload, in DISCARD and beyond the expected length, nothing while SEL is deasserted. -/
def Obligations.DataOutByPhase : Prop :=
  ∀ (s : State) (h : HostId),
    ((s.links.read h).sel = false → s.sdo h = none)
      ∧ ((s.links.read h).sel = true →
          (∀ x, (s.links.read h).phase = .header →
            (s.links.read h).statusCopy[(s.links.read h).header.length]? = some x → s.sdo h = some x)
          ∧ ((s.links.read h).phase = .payloadIn → s.sdo h = some 0)
          ∧ ((s.links.read h).phase = .discard → s.sdo h = some 0)
          ∧ ((s.links.read h).phase = .responseOut → (s.links.read h).remaining = 0 → s.sdo h = some 0)
          ∧ ∀ p k x, (s.links.read h).phase = .responseOut → (s.links.read h).pendingResult = some p →
              p.response[k]? = some x → (s.links.read h).remaining + k = p.response.length → s.sdo h = some x)

/-- HEADER_BYTE_ARRIVAL (R131, R132), PAYLOAD_BYTE_ARRIVAL and RESPONSE_BYTE_ARRIVAL (R136), the bytes beyond the
expected length among them; a byte in DISCARD (R133, R139) and one with no transaction begun (R129) are ignored, whichever
command brings it; a byte of another part of the frame than the framer is in, and a check that is not the 12th byte's or
not of the verdict named, is no event (notes/assumptions/4.md). -/
def Obligations.ByteArrivalsAdvanceFramer : Prop :=
  ∀ (s : State) (h : HostId) (b : Byte),
    let l := s.links.read h
    let reads : List Instr := [.get h b, .fetchNotice h b, .readCounter h b, .findChannel h b, .take h b]
    let checks : List Instr := .headerGoodCheck h b :: .headerBadCheck h b :: reads
    (l.phase = .header → l.header.length < 11 →
      exec (.headerByteArrival h b) s = .next (s.setLink h
        { l with header := l.header ++ [b], crc := crcByte l.crc b }))
    ∧ (l.phase = .payloadIn → 0 < l.remaining →
      exec (.payloadByteArrival h b) s = .next (s.setLink h
        { l with payload := l.payload ++ [b], remaining := l.remaining - 1 }))
    ∧ (l.phase = .payloadIn → l.remaining = 0 → exec (.payloadByteArrival h b) s = .next s)
    ∧ (l.phase = .responseOut → 0 < l.remaining →
      exec (.responseByteArrival h) s = .next (s.setLink h { l with remaining := l.remaining - 1 }))
    ∧ (l.phase = .responseOut → l.remaining = 0 → exec (.responseByteArrival h) s = .next s)
    ∧ (l.phase = .discard ∨ l.phase = .idle →
      exec (.headerByteArrival h b) s = .next s ∧ exec (.payloadByteArrival h b) s = .next s
        ∧ exec (.responseByteArrival h) s = .next s ∧ ∀ c ∈ checks, exec c s = .next s)
    ∧ (l.phase = .header → exec (.payloadByteArrival h b) s = .refused .notThatEvent
        ∧ exec (.responseByteArrival h) s = .refused .notThatEvent
        ∧ (11 ≤ l.header.length → exec (.headerByteArrival h b) s = .refused .notThatEvent)
        ∧ (l.header.length ≠ 11 → ∀ c ∈ checks, exec c s = .refused .notThatEvent)
        ∧ (l.crc ≠ b → ∀ c ∈ .headerGoodCheck h b :: reads, exec c s = .refused .notThatEvent)
        ∧ (l.crc = b → exec (.headerBadCheck h b) s = .refused .notThatEvent))
    ∧ (l.phase = .payloadIn → ∀ c ∈ .headerByteArrival h b :: .responseByteArrival h :: checks,
        exec c s = .refused .notThatEvent)
    ∧ (l.phase = .responseOut → ∀ c ∈ .headerByteArrival h b :: .payloadByteArrival h b :: checks,
        exec c s = .refused .notThatEvent)

/-- The check is the remainder of the polynomial division, taken bit by bit, most significant bit first (R132). -/
def Obligations.CheckIsPolynomialRemainder : Prop :=
  ∀ bs : List Byte,
    crc8 bs = (bs.flatMap (fun b => (List.range 8).map (fun i => b.getLsbD (7 - i)))).foldl
      (fun (r : Byte) bit => if r.msb != bit then (r <<< 1) ^^^ 0x07 else r <<< 1) 0

/-- HEADER_GOOD_CHECK (R134, R135, R151): the lease is renewed; a request that is no read kind awaits its payload; and
for a read kind the event is the one that its own row names, which is the model's reading of the table's rows
(notes/assumptions/3.md). -/
def Obligations.GoodHeaderRenewsLease : Prop :=
  ∀ (s : State) (h : HostId) (b : Byte) (r : Request), s.meetsCheck h b r →
    ((∀ k, r.kind = some k → k.isRead = false) →
      exec (.headerGoodCheck h b) s = .next
        ({ s with members := s.members.write h ((s.members.read h).renewed s.now) }.setLink h
          { (s.links.read h).headed b with
            phase := .payloadIn
            remaining := if r.code = 0x42 ∧ 1 ≤ r.a.toNat ∧ r.a.toNat ≤ 64 then r.a.toNat else 0 }))
    ∧ (r.code = 0x14 → exec (.headerGoodCheck h b) s = exec (.get h b) s)
    ∧ (r.code = 0x19 → exec (.headerGoodCheck h b) s = exec (.fetchNotice h b) s)
    ∧ (r.code = 0x1A → exec (.headerGoodCheck h b) s = exec (.readCounter h b) s)
    ∧ (r.code = 0x23 → exec (.headerGoodCheck h b) s = exec (.findChannel h b) s)
    ∧ (r.code = 0x51 → exec (.headerGoodCheck h b) s = exec (.take h b) s)

/-- HEADER_BAD_CHECK (R133, R141): DISCARD, a CHECK fault, and nothing else; no lease is renewed. -/
def Obligations.BadHeaderDiscards : Prop :=
  ∀ (s : State) (h : HostId) (b : Byte), (s.links.read h).phase = .header → (s.links.read h).header.length = 11 →
    (s.links.read h).crc ≠ b →
    let l := s.links.read h
    exec (.headerBadCheck h b) s = .next
      ((s.setLink h { l.headed b with phase := .discard, lastFault := .check, faultSerial := l.serial }).setDesk h
        (s.desks.read h).faulted)

/-- TRANSACTION_VOID (R138, R141, and R102 for a TAKE that opened its entry). -/
def Obligations.TransactionVoidUndoesRead : Prop :=
  ∀ (s : State) (h : HostId),
    (s.links.read h).phase = .header
      ∨ (((s.links.read h).phase = .payloadIn ∨ (s.links.read h).phase = .responseOut)
          ∧ (s.links.read h).remaining ≠ 0) →
    let l := s.links.read h
    let entries := match l.pendingResult with
      | some ⟨_, _, _, .take e _ _ _ true⟩ =>
        if (s.entries.read e).offset = 0 then s.entries.write e { s.entries.read e with state := .queued }
        else s.entries
      | _ => s.entries
    exec (.transactionVoid h) s = .next
      (({ s with entries := entries }.setLink h
        { l.ended .void 0 with lastFault := .framing, faultSerial := l.serial }).setDesk h (s.desks.read h).faulted)

/-- A deselect with no transaction of its own to end: in DISCARD it reports nothing, whichever request the transaction
had carried (R133, R139, R144, R145); in IDLE under SEL it is seen (R129); on a deasserted line, and for a command that
names the end of a transaction still in its header, it is no event (notes/assumptions/4.md). -/
def Obligations.DeselectWithoutRequest : Prop :=
  ∀ (s : State) (h : HostId) (c : Instr), c ∈ deselects h →
    let l := s.links.read h
    let seen : Host.Outcome State Fault Refusal :=
      .next (s.setLink h { l with sel := false, selectSeen := true, phase := .idle })
    (l.phase = .discard → exec c s = seen)
      ∧ (l.phase = .idle → l.sel = true → exec c s = seen)
      ∧ (l.phase = .idle → l.sel = false → exec c s = .refused .notThatEvent)
      ∧ (l.phase = .header → c ≠ .transactionVoid h → exec c s = .refused .notThatEvent)

/-! ## Requests without an owner -/

/-- UNKNOWN_REQUEST and SET_READ_ONLY_VALUE: a code that names no request is refused BAD_REQUEST in every host state
(R134, R143), and so is a JOINED host's SET of what is no parameter (R158). A host that is not JOINED is refused
NOT_JOINED by every request but JOIN, ACK and the read kinds among GET, FETCH_NOTICE and READ_COUNTER (R143). In each
case nothing but the link changes. -/
def Obligations.RefusalsWithoutAnOwner : Prop :=
  ∀ (s : State) (h : HostId) (r : Request), s.carriesRequest h r →
    (r.kind = none → exec (.unknownRequest h) s = .next (s.ended h .badRequest 0))
    ∧ (r.kind = some .set → (∀ i, Ident.ofCode r.a = some i → i.isParameter = false) →
      exec (.setReadOnlyValue h) s = .next (s.ended h (if s.isJoined h then .badRequest else .notJoined) 0))
    ∧ (s.isJoined h = false →
      let refused : Host.Outcome State Fault Refusal := .next (s.ended h .notJoined 0)
      (r.kind = some .leave → exec (.leave h) s = refused)
        ∧ (r.kind = some .voteClear → exec (.voteClear h) s = refused)
        ∧ (r.kind = some .openChannel → exec (.openChannel h) s = refused)
        ∧ (r.kind = some .closeChannel → exec (.closeChannel h) s = refused)
        ∧ (r.kind = some .subscribe → exec (.subscribe h) s = refused)
        ∧ (r.kind = some .unsubscribe → exec (.unsubscribe h) s = refused)
        ∧ (r.kind = some .suspend → exec (.suspend h) s = refused)
        ∧ (r.kind = some .resume → exec (.resume h) s = refused)
        ∧ (r.kind = some .begin → exec (.begin h) s = refused)
        ∧ (r.kind = some .put → exec (.put h) s = refused)
        ∧ (r.kind = some .sealMsg → exec (.sealMsg h) s = refused)
        ∧ (r.kind = some .abort → exec (.abort h) s = refused)
        ∧ (r.kind = some .skip → exec (.skip h) s = refused))

/-! ## Read kinds: what the header answers and what the commit changes -/

/-- GET (R159, R184, R187): the value of each identifier in four bytes, most significant first, the mask, the host states
and the last link error in their codes; four zeros and BAD_REQUEST for
a code that is none; nothing to commit (R137, R140). -/
def Obligations.GetAnswersIdentifier : Prop :=
  ∀ (s : State) (h : HostId) (b : Byte) (r : Request),
    let m := s.members.read h
    let code : Membership → Nat := fun x => match x with
      | .detached => 0
      | .joined => 1
      | .lapsed => 2
    let flag (b : Bool) (n : Nat) : Nat := if b then n else 0
    let mask := flag m.mask.delivery 1 + flag m.mask.notice 2 + flag m.mask.credit 4 + flag m.mask.turn 8
      + flag m.mask.linkError 16
    let reason := match (s.links.read h).lastFault with
      | .none => 0
      | .check => 1
      | .framing => 2
    let table : List (Nat × Nat) :=
      [ (0x01, m.leasePeriod), (0x02, mask), (0x03, m.creditThreshold),
        (0x10, s.params.reserveThreshold), (0x11, s.params.turnWindow), (0x12, s.params.voteWindow),
        (0x13, if s.params.precedence then 1 else 0), (0x14, s.params.quotaCeiling), (0x20, s.freeList.length),
        (0x21, ((List.finRange 128).filter (fun i => (s.messages.read i).state == .vacant)).length),
        (0x22, ((List.finRange 256).filter (fun i => !(s.entries.read i).inUse)).length),
        (0x23, ((List.finRange 64).filter (fun i => (s.subs.read i).state == .free)).length),
        (0x24, ((List.finRange 32).filter (fun i => (s.channels.read i).state != .closed)).length),
        (0x25, code (s.members.read 0).state + 4 * code (s.members.read 1).state + 16 * code (s.members.read 2).state
          + 64 * code (s.members.read 3).state),
        (0x26, 256 * reason + (s.links.read h).faultSerial.toNat), (0x27, 1) ]
    let w (v : Nat) : List Byte :=
      [BitVec.ofNat 8 (v / 16777216), BitVec.ofNat 8 (v / 65536), BitVec.ofNat 8 (v / 256), BitVec.ofNat 8 v]
    (s.meetsCheck h b r → r.kind = some .get →
      (∀ v, (r.a.toNat, v) ∈ table → exec (.get h b) s = .next (s.answered h b
          { response := w v, result := .ok, value := 0, commit := .nothing }))
        ∧ ((∀ v, (r.a.toNat, v) ∉ table) → exec (.get h b) s = .next (s.answered h b
          { response := [0, 0, 0, 0], result := .badRequest, value := 0, commit := .nothing })))
    ∧ ∀ p, s.carriesRead h .get p → exec (.getCommit h) s = .next (s.ended h p.result p.value)

/-- FETCH_NOTICE (R171): the head record or NONE, with the lost count; the header changes no notice. The record, byte by
byte, for each kind (R167, R186). Its commit (R172): a reported record leaves the head of the queue, and the lost count
falls by the reported one. -/
def Obligations.FetchNoticeAnswersThenRemoves : Prop :=
  (∀ (s : State) (h : HostId) (b : Byte) (r : Request),
    let d := s.desks.read h
    (s.meetsCheck h b r → r.kind = some .fetchNotice →
      exec (.fetchNotice h b) s = .next (s.answered h b
        { response := noticeRecord d.notices.head? d.lost, result := .ok, value := 0
          commit := .fetchNotice d.notices.head? d.lost }))
    ∧ ∀ p n lost, s.carriesRead h .fetchNotice p → p.commit = .fetchNotice n lost →
      exec (.fetchNoticeCommit h) s = .next ((s.ended h p.result p.value).setDesk h
        { d with notices := if n = none then d.notices else d.notices.drop 1, lost := d.lost - lost }))
  ∧ ∀ (lost : Nat) (g : HostId) (i : SubId) (key sequence tag : Word16) (reason : DropReason),
    let l : Byte := BitVec.ofNat 8 lost
    let x : Byte := BitVec.ofNat 8 g.val
    let y : Byte := BitVec.ofNat 8 i.val
    let k := [key.extractLsb' 8 8, key.extractLsb' 0 8]
    let q := [sequence.extractLsb' 8 8, sequence.extractLsb' 0 8]
    let why : Byte := match reason with
      | .limit => 1
      | .displaced => 2
      | .pool => 3
    noticeRecord none lost = [0, 0, l, 0, 0, 0, 0, 0, 0, 0, 0, 0]
      ∧ noticeRecord (some (.dropped i key sequence tag reason)) lost =
        [1, 0x3E, l, 0, why, y] ++ k ++ q ++ [tag.extractLsb' 8 8, tag.extractLsb' 0 8]
      ∧ noticeRecord (some (.hostJoined g)) lost = [2, 0x01, l, x, 0, 0, 0, 0, 0, 0, 0, 0]
      ∧ noticeRecord (some (.hostLeft g)) lost = [3, 0x01, l, x, 0, 0, 0, 0, 0, 0, 0, 0]
      ∧ noticeRecord (some (.hostLapsed g)) lost = [4, 0x01, l, x, 0, 0, 0, 0, 0, 0, 0, 0]
      ∧ noticeRecord (some (.messageAborted key sequence)) lost = [5, 0x1A, l, 0, 4, 0] ++ k ++ q ++ [0, 0]
      ∧ noticeRecord (some (.channelClosed key i)) lost = [6, 0x0C, l, 0, 0, y] ++ k ++ [0, 0, 0, 0]
      ∧ noticeRecord (some (.voteOpened g)) lost = [7, 0x01, l, x, 0, 0, 0, 0, 0, 0, 0, 0]
      ∧ noticeRecord (some .voteFailed) lost = [8, 0, l, 0, 0, 0, 0, 0, 0, 0, 0, 0]
      ∧ noticeRecord (some .exchangeCleared) lost = [9, 0, l, 0, 0, 0, 0, 0, 0, 0, 0, 0]
      ∧ noticeRecord (some .turnMissed) lost = [10, 0, l, 0, 0, 0, 0, 0, 0, 0, 0, 0]

/-- READ_COUNTER (R180, R181): the named counter is captured and its low 32 bits returned; four zeros and BAD_REQUEST for
a code that names none. Its commit: each counter reduced by what was captured; BYTES_LOW also stores the high part;
BYTES_HIGH changes nothing, nor does the commit of a refused read, which ends its transaction alone. -/
def Obligations.ReadCounterCapturesThenReduces : Prop :=
  ∀ (s : State) (h : HostId) (b : Byte) (r : Request),
    let d := s.desks.read h
    let c := d.counters
    let table : List (Nat × CounterId × BitVec 40) :=
      [ (1, .published, c.published.setWidth 40), (2, .bytesLow, c.bytes), (3, .bytesHigh, c.highLatch.setWidth 40),
        (4, .taken, c.taken.setWidth 40), (5, .dropped, c.dropped.setWidth 40), (6, .aborted, c.aborted.setWidth 40),
        (7, .linkErrors, c.linkErrors.setWidth 40) ]
    let w (v : BitVec 40) : List Byte :=
      [v.extractLsb' 24 8, v.extractLsb' 16 8, v.extractLsb' 8 8, v.extractLsb' 0 8]
    (s.meetsCheck h b r → r.kind = some .readCounter →
      (∀ i v, (r.a.toNat, i, v) ∈ table → exec (.readCounter h b) s = .next (s.answered h b
          { response := w v, result := .ok, value := 0, commit := .readCounter i v }))
        ∧ ((∀ i v, (r.a.toNat, i, v) ∉ table) → exec (.readCounter h b) s = .next (s.answered h b
          { response := [0, 0, 0, 0], result := .badRequest, value := 0, commit := .nothing })))
    ∧ (∀ p, s.carriesRead h .readCounter p → p.commit = .nothing →
        exec (.readCounterCommit h) s = .next (s.ended h p.result p.value))
    ∧ ∀ p i v, s.carriesRead h .readCounter p → p.commit = .readCounter i v →
      let after (x : Counters) : Host.Outcome State Fault Refusal :=
        .next ((s.ended h p.result p.value).setDesk h { d with counters := x })
      (i = .published → exec (.readCounterCommit h) s = after { c with published := c.published - v.setWidth 32 })
        ∧ (i = .bytesLow → exec (.readCounterCommit h) s =
            after { c with bytes := c.bytes - v, highLatch := (v >>> 32).setWidth 8 })
        ∧ (i = .bytesHigh → exec (.readCounterCommit h) s = after c)
        ∧ (i = .taken → exec (.readCounterCommit h) s = after { c with taken := c.taken - v.setWidth 32 })
        ∧ (i = .dropped → exec (.readCounterCommit h) s = after { c with dropped := c.dropped - v.setWidth 32 })
        ∧ (i = .aborted → exec (.readCounterCommit h) s = after { c with aborted := c.aborted - v.setWidth 32 })
        ∧ (i = .linkErrors → exec (.readCounterCommit h) s =
            after { c with linkErrors := c.linkErrors - v.setWidth 16 })

/-- FIND_CHANNEL (R40, R187): the information of the slot that holds the key; eight zeros where none does, for key 0, and
for a host that is not JOINED; nothing to commit (R137, R140). -/
def Obligations.FindChannelAnswersSlot : Prop :=
  ∀ (s : State) (h : HostId) (b : Byte) (r : Request),
    let answer (bytes : List Byte) (c : ResultCode) : Host.Outcome State Fault Refusal :=
      .next (s.answered h b { response := bytes, result := c, value := 0, commit := .nothing })
    (channelTableLaw s → s.meetsCheck h b r → r.kind = some .findChannel →
      (s.isJoined h = false → exec (.findChannel h b) s = answer (List.replicate 8 0) .notJoined)
        ∧ (s.isJoined h = true → (∀ i, s.holdsKey r.key i = false) →
            exec (.findChannel h b) s = answer (List.replicate 8 0) .ok)
        ∧ ∀ i, s.isJoined h = true → s.holdsKey r.key i = true →
            let c := s.channels.read i
            let state := if c.state = .opened then 1 else 2
            let mode := if c.mode = .whole then 4 else 8
            let creator := match c.creator with
              | some g => 16 + 32 * g.val
              | none => 0
            exec (.findChannel h b) s = answer
              [ BitVec.ofNat 8 (state + mode + creator), BitVec.ofNat 8 i.val, BitVec.ofNat 8 (c.maxLength / 256),
                BitVec.ofNat 8 c.maxLength, BitVec.ofNat 8 c.subscriberCount, BitVec.ofNat 8 c.liveCount,
                c.nextSequence.extractLsb' 8 8, c.nextSequence.extractLsb' 0 8 ] .ok)
    ∧ ∀ p, s.carriesRead h .findChannel p → exec (.findChannelCommit h) s = .next (s.ended h p.result p.value)

/-- TAKE (R96 to R99, R185). Refused or on an empty queue, its descriptor is blank beside the outcome. On a head entry:
the outcome by the first line that applies, the descriptor byte by byte, the bytes reported and the zeros after them, and
the entry OPENED by DATA and ABORTED alone. -/
def Obligations.TakeAnswersHeadEntry : Prop :=
  ∀ (s : State) (h : HostId) (b : Byte) (r : Request), s.meetsCheck h b r → r.kind = some .take →
    let answer (bytes : List Byte) (c : ResultCode) : Host.Outcome State Fault Refusal :=
      .next (s.answered h b { response := bytes, result := c, value := 0, commit := .nothing })
    (s.isJoined h = false → exec (.take h b) s = answer (List.replicate 12 0) .notJoined)
    ∧ (s.isJoined h = true → r.a = 0 ∨ 64 < r.a.toNat →
        exec (.take h b) s = answer (List.replicate 12 0) .badRequest)
    ∧ (s.isJoined h = true → 1 ≤ r.a.toNat → r.a.toNat ≤ 64 → s.queues.read h = [] →
        exec (.take h b) s = answer (1 :: List.replicate (11 + r.a.toNat) 0) .ok)
    ∧ ∀ e rest, s.isJoined h = true → 1 ≤ r.a.toNat → r.a.toNat ≤ 64 → s.queues.read h = e :: rest →
      let x := s.entries.read e
      let m := s.messages.read x.message
      let o : TakeOutcome :=
        if m.state = .aborted then .aborted else if m.state = .filling ∧ x.offset = m.length then .stalled else .data
      let count := if o = .data then min r.a.toNat (m.length - x.offset) else 0
      let first := o = .data ∧ x.offset = 0
      let last := o = .data ∧ m.state = .sealed ∧ x.offset + count = m.length
      let unknown := m.state = .filling ∧ m.declared = none
      let shown := if m.state = .filling then m.declared.getD 0 else m.length
      let code := if o = .data then 2 else if o = .stalled then 3 else 4
      let word (n : Nat) : List Byte := [BitVec.ofNat 8 (n / 256), BitVec.ofNat 8 n]
      let descriptor : List Byte :=
        [ BitVec.ofNat 8 (code + (if first then 8 else 0) + (if last then 16 else 0) + (if unknown then 32 else 0)
            + 64 * m.publisher.val), BitVec.ofNat 8 count ]
          ++ word m.key.toNat ++ word m.sequence.toNat ++ word m.tag.toNat ++ word x.offset ++ word shown
      let opens := o = .data ∨ o = .aborted
      let u := s.answered h b
        { response := descriptor ++ s.readBytes x.message x.offset count ++ List.replicate (r.a.toNat - count) 0
          result := .ok, value := BitVec.ofNat 16 count
          commit := .take e o count (decide last) (decide (opens ∧ x.state = .queued)) }
      exec (.take h b) s = .next
        { u with entries := if opens then s.entries.write e { x with state := .opened } else s.entries }

/-- TAKE_COMMIT (R100, R101): DATA without LAST raises the read offset; STALLED changes nothing, nor does a take that was
refused or found EMPTY; LAST and ABORTED remove the entry and release its reference, and LAST alone advances TAKEN. -/
def Obligations.TakeCommitMovesReader : Prop :=
  ∀ (s : State) (h : HostId) (p : PendingResult), s.carriesRead h .take p →
    let w := s.ended h p.result p.value
    (∀ e n opened, p.commit = .take e .data n false opened →
      let x := s.entries.read e
      exec (.takeCommit h) s = .next { w with entries := s.entries.write e { x with offset := x.offset + n } })
    ∧ (∀ e n last opened, p.commit = .take e .stalled n last opened → exec (.takeCommit h) s = .next w)
    ∧ (p.commit = .nothing → exec (.takeCommit h) s = .next w)
    ∧ (∀ e n last opened, p.commit = .take e .aborted n last opened →
      ∃ t, Removed h e w t ∧ exec (.takeCommit h) s = .next t)
    ∧ ∀ e n opened, p.commit = .take e .data n true opened → ∃ t, Removed h e w t
      ∧ exec (.takeCommit h) s = .next (t.setDesk h
          { t.desks.read h with
            counters := { (t.desks.read h).counters with taken := counted (s.desks.read h).counters.taken } })

/-! ## Membership -/

/-- JOIN (R149). Refused by its table in order, and nothing but the link changes. Accepted: quota, exhausted mark, lease
and threshold, an emptied desk with READY latched, HOST_JOINED to the other JOINED hosts, and VOTE_OPENED to the joining
host while a vote is open, which stays open. -/
def Obligations.JoinAdmitsHost : Prop :=
  ∀ (s : State) (h : HostId) (r : Request), s.carries h .join r →
    (∀ c, firstRefusal (joinRefusals s h r) = some c → exec (.join h) s = .next (s.ended h c 0))
    ∧ (firstRefusal (joinRefusals s h r) = none →
      (∀ v, s.vote = some v → v.voters ≠ noHosts ∧ v.voters.read h = false) →
      let grant := min r.b.toNat s.params.quotaCeiling
      let account : Account :=
        { quota := grant, charge := (s.accounts.read h).charge
          exhausted := decide (grant ≤ (s.accounts.read h).charge) }
      let member : Member :=
        { state := .joined, leasePeriod := r.a.toNat, creditThreshold := r.c.toNat
          leaseDeadline := if r.a = 0 then none else some (s.now + r.a.toNat), mask := (s.members.read h).mask }
      ∃ t, exec (.join h) s = .next t
        ∧ t = { s.ended h .ok (BitVec.ofNat 16 grant) with
            accounts := s.accounts.write h account, members := s.members.write h member, desks := t.desks }
        ∧ ∀ g, t.desks.read g =
          if g = h then
            (match s.vote with
              | some v => Desk.posted Desk.ready (.voteOpened v.opener)
              | none => Desk.ready)
          else if s.isJoined g = true then (s.desks.read g).posted (.hostJoined h) else s.desks.read g)

/-- LEAVE and LEASE_EXPIRY (R152, R153, R154, R155): the teardown in its eleven steps, with the transaction ended OK before
it (LEAVE) or voided by it (lapse); an open vote fails, completes with an exchange clear, or stays open (R162). That the
clear voids every transaction in flight, a complete JOIN among them, is the model's reading of R163, R139 and R145 beside
R150 and R162 (notes/assumptions/15.md); that the pool's data bytes stay, its reading of R1 (notes/assumptions/6.md); that
an expiry is a command with effect at any deadline at or below the time, its choice (notes/assumptions/1.md). -/
def Obligations.DepartureTearsDown : Prop :=
  (∀ (s : State) (h : HostId) (r : Request), s.carries h .leave r → s.isJoined h = true →
    ∃ t, exec (.leave h) s = .next t ∧ TornDown h .detached (.hostLeft h) (s.ended h .ok 0) t
      ∧ t.links.read h = (s.links.read h).ended .ok 0)
  ∧ ∀ (s : State) (h : HostId) (d : Nat), s.isJoined h = true → (s.members.read h).leaseDeadline = some d →
    d ≤ s.now → ∃ t, exec (.leaseExpiry h) s = .next t ∧ TornDown h .lapsed (.hostLapsed h) s t
      ∧ t.links.read h = (s.links.read h).cutOff

/-- SET of a per-host parameter (R158, R12): by its table, or stored; the lease deadline is set again, and a credit
threshold at or below the credit of an exhausted host clears its mark and latches CREDIT. -/
def Obligations.SetOwnParameter : Prop :=
  ∀ (s : State) (h : HostId) (r : Request),
    let v := r.b.toNat
    let m := s.members.read h
    let refused (inRange : Bool) (c : ResultCode) : Prop := firstRefusal (setRefusals s h inRange false) = some c
    let accepted (inRange : Bool) : Prop := firstRefusal (setRefusals s h inRange false) = none
    let lease := v == 0 || (decide (10 ≤ v) && decide (v ≤ 60000))
    let mask := decide (v < 32)
    let threshold := decide (1 ≤ v) && decide (v ≤ 64)
    let given : Mask :=
      { delivery := r.b.getLsbD 0, notice := r.b.getLsbD 1, credit := r.b.getLsbD 2, turn := r.b.getLsbD 3
        linkError := r.b.getLsbD 4 }
    let store (x : Member) : State := { s.ended h .ok r.b with members := s.members.write h x }
    let lifted := (s.accounts.read h).exhausted = true ∧ v ≤ s.credit h
    let a := s.accounts.read h
    let d := s.desks.read h
    let credited : Desk := { d with latches := { d.latches with credit := true } }
    (s.carriesSet h .leasePeriod r →
      (∀ c, refused lease c → exec (.setLeasePeriod h) s = .next (s.ended h c 0))
        ∧ (accepted lease → exec (.setLeasePeriod h) s = .next (store
            { m with leasePeriod := v, leaseDeadline := if v = 0 then none else some (s.now + v) })))
    ∧ (s.carriesSet h .attentionMask r →
      (∀ c, refused mask c → exec (.setAttentionMask h) s = .next (s.ended h c 0))
        ∧ (accepted mask → exec (.setAttentionMask h) s = .next (store { m with mask := given })))
    ∧ (s.carriesSet h .creditThreshold r →
      (∀ c, refused threshold c → exec (.setCreditThreshold h) s = .next (s.ended h c 0))
        ∧ (accepted threshold → ¬lifted →
            exec (.setCreditThreshold h) s = .next (store { m with creditThreshold := v }))
        ∧ (accepted threshold → lifted → exec (.setCreditThreshold h) s = .next
            { store { m with creditThreshold := v } with
              accounts := s.accounts.write h { a with exhausted := false }
              desks := s.desks.write h credited }))

/-- SET of an exchange-wide parameter (R158): by its table, or stored. A SET of the reserve threshold re-evaluates the
rationed flag (R110), which stays clear on the whole free list that condition 4 ensures. -/
def Obligations.SetSharedParameter : Prop :=
  ∀ (s : State) (h : HostId) (r : Request),
    let v := r.b.toNat
    let p := s.params
    let refused (inRange : Bool) (c : ResultCode) : Prop := firstRefusal (setRefusals s h inRange true) = some c
    let accepted (inRange : Bool) : Prop := firstRefusal (setRefusals s h inRange true) = none
    let reserve := decide (v ≤ 256)
    let turn := decide (1 ≤ v) && decide (v ≤ 1000)
    let vote := decide (10 ≤ v) && decide (v ≤ 5000)
    let precedence := decide (v ≤ 1)
    let ceiling := decide (1 ≤ v) && decide (v ≤ 512)
    let store (x : Params) : Host.Outcome State Fault Refusal := .next { s.ended h .ok r.b with params := x }
    (s.carriesSet h .reserveThreshold r →
      (∀ c, refused reserve c → exec (.setReserveThreshold h) s = .next (s.ended h c 0))
        ∧ (accepted reserve → s.rationed = false → s.freeList.length = 512 →
            exec (.setReserveThreshold h) s = store { p with reserveThreshold := v }))
    ∧ (s.carriesSet h .turnWindow r →
      (∀ c, refused turn c → exec (.setTurnWindow h) s = .next (s.ended h c 0))
        ∧ (accepted turn → exec (.setTurnWindow h) s = store { p with turnWindow := v }))
    ∧ (s.carriesSet h .voteWindow r →
      (∀ c, refused vote c → exec (.setVoteWindow h) s = .next (s.ended h c 0))
        ∧ (accepted vote → exec (.setVoteWindow h) s = store { p with voteWindow := v }))
    ∧ (s.carriesSet h .precedence r →
      (∀ c, refused precedence c → exec (.setPrecedence h) s = .next (s.ended h c 0))
        ∧ (accepted precedence → exec (.setPrecedence h) s = store { p with precedence := decide (v = 1) }))
    ∧ (s.carriesSet h .quotaCeiling r →
      (∀ c, refused ceiling c → exec (.setQuotaCeiling h) s = .next (s.ended h c 0))
        ∧ (accepted ceiling → exec (.setQuotaCeiling h) s = store { p with quotaCeiling := v }))

/-- VOTE_CLEAR of a JOINED host (R161, R162, R163). While another JOINED host has not voted, the vote opens with
VOTE_OPENED to the others, or has one voter more, and the last value counts the JOINED hosts that have not voted. The
last one needed clears the exchange, and its last value is 0. That the clear voids every transaction in flight, a complete
JOIN among them, is the model's reading of R163, R139 and R145 beside R150 and R162 (notes/assumptions/15.md); that the
pool's data bytes stay through it, its reading of R1 (notes/assumptions/6.md). -/
def Obligations.VoteClearVotesOrClears : Prop :=
  ∀ (s : State) (h : HostId) (r : Request), s.carries h .voteClear r → s.isJoined h = true →
    let needed (v : HostSet) : Word16 :=
      BitVec.ofNat 16 ((List.finRange 4).filter (fun x => s.isJoined x && !v.read x)).length
    let alone := HostSet.insert noHosts h
    let opened : Vote := { voters := alone, opener := h, deadline := s.now + s.params.voteWindow }
    (∀ g, s.isJoined g = true → g ≠ h → s.vote = none →
      ∃ t, exec (.voteClear h) s = .next t
        ∧ t = { s.ended h .ok (needed alone) with vote := some opened, desks := t.desks }
        ∧ ∀ x, t.desks.read x =
            if x ≠ h ∧ s.isJoined x = true then (s.desks.read x).posted (.voteOpened h) else s.desks.read x)
    ∧ (∀ g v, s.isJoined g = true → g ≠ h → s.vote = some v → v.voters.read g = false →
      let w : Vote := { v with voters := v.voters.insert h }
      exec (.voteClear h) s = .next { s.ended h .ok (needed w.voters) with vote := some w })
    ∧ ((match s.vote with
        | some v => v.voters.insert h
        | none => alone) = s.joinedHosts →
      ∃ t, exec (.voteClear h) s = .next t ∧ Cleared (s.ended h .ok 0) t)

/-- TURN_EXPIRY, VOTE_DEADLINE and LEASE_EXPIRY (R119, R162, R188): a turn that is due ends, with TURN_MISSED to a
GRANTED holder, and passes to the next claimant; a vote that is due closes with VOTE_FAILED to every JOINED host; and a
deadline that is absent or not reached has no effect. That an expiry is a command of its own, with effect once its
deadline is at or below the time and none in any other state, is the model's choice (notes/assumptions/1.md); no step
leaves a deadline behind the time, so an expiry with effect comes at the step on which the time first equals it. -/
def Obligations.ExpiriesActWhenReached : Prop :=
  (∀ (s : State) (g : HostId) (d : Nat), s.turn = .granted g d → d ≤ s.now → s.nextClaimant = none →
    exec .turnExpiry s = .next { s with
      turn := .none
      desks := if s.isJoined g = true then s.desks.write g ((s.desks.read g).posted .turnMissed) else s.desks })
  ∧ (∀ (s : State) (g n : HostId) (d : Nat), s.turn = .granted g d → d ≤ s.now → s.nextClaimant = some n →
    ∃ t, exec .turnExpiry s = .next t
      ∧ t = { s with
          turn := .granted n (s.now + s.params.turnWindow), claimants := HostSet.erase s.claimants n, desks := t.desks }
      ∧ ∀ h,
        let d := if h = g ∧ s.isJoined g = true then (s.desks.read g).posted .turnMissed else s.desks.read h
        t.desks.read h = if h = n then d.turnLatched else d)
  ∧ (∀ (s : State) (g : HostId) (d : Nat), s.turn = .inUse g d → d ≤ s.now → s.nextClaimant = none →
    exec .turnExpiry s = .next { s with turn := .none })
  ∧ (∀ (s : State) (g n : HostId) (d : Nat), s.turn = .inUse g d → d ≤ s.now → s.nextClaimant = some n →
    exec .turnExpiry s = .next { s with
      turn := .granted n (s.now + s.params.turnWindow), claimants := HostSet.erase s.claimants n
      desks := s.desks.write n (s.desks.read n).turnLatched })
  ∧ (∀ (s : State) (v : Vote), s.vote = some v → v.deadline ≤ s.now →
    ∃ t, exec .voteDeadline s = .next t ∧ t = { s with vote := none, desks := t.desks }
      ∧ ∀ h, t.desks.read h = if s.isJoined h = true then (s.desks.read h).posted .voteFailed else s.desks.read h)
  ∧ ∀ (s : State) (h : HostId),
    ((∀ d, s.turn.deadline = some d → s.now < d) → exec .turnExpiry s = .next s)
      ∧ ((∀ v, s.vote = some v → s.now < v.deadline) → exec .voteDeadline s = .next s)
      ∧ ((∀ d, (s.members.read h).leaseDeadline = some d → s.now < d) → exec (.leaseExpiry h) s = .next s)
      ∧ ∀ t, deadlineLaw s → step s = .next t → deadlineLaw t

/-! ## Notices, attention and counters -/

/-- ACK (R176): the latches named are cleared, DELIVERY and NOTICE latched again over a queue that is not empty, and the
last value is what is left; a bit beyond the six is refused. -/
def Obligations.AckClearsNamedLatches : Prop :=
  ∀ (s : State) (h : HostId) (r : Request), s.carries h .ack r →
    let d := s.desks.read h
    let a := r.a
    let x := d.latches
    let y : Latches :=
      { delivery := if a.getLsbD 0 then decide (s.queues.read h ≠ []) else x.delivery
        notice := if a.getLsbD 1 then decide (d.notices ≠ []) else x.notice
        credit := x.credit && !a.getLsbD 2, turn := x.turn && !a.getLsbD 3
        linkError := x.linkError && !a.getLsbD 4, ready := x.ready && !a.getLsbD 5 }
    (a.toNat < 64 → ∃ v : Word16,
      exec (.ack h) s = .next { s.ended h .ok v with desks := s.desks.write h { d with latches := y } }
        ∧ v.getLsbD 0 = y.delivery ∧ v.getLsbD 1 = y.notice ∧ v.getLsbD 2 = y.credit ∧ v.getLsbD 3 = y.turn
        ∧ v.getLsbD 4 = y.linkError ∧ v.getLsbD 5 = y.ready ∧ v.toNat < 64)
    ∧ (64 ≤ a.toNat → exec (.ack h) s = .next (s.ended h .badRequest 0))

/-- Posting (R168): the table of the rule for every host state and queue length; a posting to one host is nothing to
another. -/
def Obligations.NoticeKeptLostOrDiscarded : Prop :=
  ∀ (s : State) (h : HostId) (n : Notice),
    let d := s.desks.read h
    let e := (post h n s).desks.read h
    (s.isJoined h = true → d.notices.length < 16 →
      e.notices = d.notices ++ [n] ∧ e.lost = d.lost ∧ e.latches.notice = true)
    ∧ (s.isJoined h = true → 16 ≤ d.notices.length →
      e.notices = d.notices ∧ e.lost = (if d.lost < 255 then d.lost + 1 else 255) ∧ e.latches.notice = true)
    ∧ (s.isJoined h = false → post h n s = s)
    ∧ (s.isJoined h = true → post h n s = { s with desks := s.desks.write h e }
        ∧ e.counters = d.counters ∧ { e.latches with notice := d.latches.notice } = d.latches)

/-- ATN (R175): asserted by READY, and by any other cause that is latched and not masked. -/
def Obligations.AttentionFollowsLatchesAndMask : Prop :=
  ∀ (s : State) (h : HostId),
    let l := (s.desks.read h).latches
    let m := (s.members.read h).mask
    s.atn h = true ↔ l.ready = true ∨ (l.delivery = true ∧ m.delivery = false) ∨ (l.notice = true ∧ m.notice = false)
      ∨ (l.credit = true ∧ m.credit = false) ∨ (l.turn = true ∧ m.turn = false)
      ∨ (l.linkError = true ∧ m.linkError = false)

/-! ## Channels -/

/-- OPEN_CHANNEL (R32): by its table, or the lowest CLOSED slot opens. -/
def Obligations.OpenChannelTakesLowestSlot : Prop :=
  ∀ (s : State) (h : HostId) (r : Request), channelTableLaw s → s.carries h .openChannel r →
    (∀ c, firstRefusal (openRefusals s h r) = some c → exec (.openChannel h) s = .next (s.ended h c 0))
    ∧ ∀ i, firstRefusal (openRefusals s h r) = none → (s.channels.read i).state = .closed →
      (∀ j, j < i → (s.channels.read j).state ≠ .closed) →
      ∃ x, exec (.openChannel h) s = .next { s.ended h .ok (BitVec.ofNat 16 i.val) with
          channels := s.channels.write i x }
        ∧ x = { state := .opened, key := r.key, creator := some h, mode := if r.c = 1 then .whole else .streaming
                maxLength := r.a.toNat, publishSet := x.publishSet, nextSequence := 0, liveCount := 0
                subscriberCount := 0 }
        ∧ ∀ g : HostId, x.publishSet.read g = r.b.getLsbD g.val

/-- CLOSE_CHANNEL (R34 to R37). Refused by its table in order. Accepted: no message on the channel stays FILLING and no
subscription on it stays: first each FILLING message is aborted and its publisher told, in ascending record number, then
each subscription is freed and its owner told, in ascending index. An aborted message is ABORTED if it is STREAMING and an
entry refers to it, and freed otherwise; a turn its publisher holds IN_USE ends. The entries stay queued and lose a
subscription field that named a freed record. The slot is then CLOSED if no message of the channel is left, and otherwise
DRAINING with as many live messages as are left, no subscriber, and every other field kept; the last value is its live
count. No other channel, subscription, or message that was not FILLING on the channel changes. -/
def Obligations.CloseChannelAbortsFreesTells : Prop :=
  ∀ (s : State) (h : HostId) (r : Request), channelTableLaw s → s.carries h .closeChannel r →
    (∀ c, firstRefusal (closeRefusals s h r) = some c → exec (.closeChannel h) s = .next (s.ended h c 0))
    ∧ ∀ c, fillingLaw s → seventhLaw s → (s.channels.read c).subscriberCount = s.subscribersOn c →
      firstRefusal (closeRefusals s h r) = none → s.holdsKey r.key c = true →
      let aborts := (List.finRange 128).filter (fun m => (s.messages.read m).state == .filling
        && (s.messages.read m).channel == c)
      let frees := (List.finRange 64).filter (fun i => (s.subs.read i).state != .free && (s.subs.read i).channel == c)
      ∃ u v t, exec (.closeChannel h) s = .next t
        ∧ Chain CloseAborted aborts s u ∧ Chain (CloseUnsubscribed (s.channels.read c).key) frees u v
        ∧ (let left := (List.finRange 128).filter (fun m => (v.messages.read m).state != .vacant
            && (v.messages.read m).channel == c)
          t = { v with
            channels := v.channels.write c (if left = [] then Channel.closed else
              { s.channels.read c with state := .draining, liveCount := left.length, subscriberCount := 0 })
            links := s.links.write h ((s.links.read h).ended .ok (BitVec.ofNat 16 left.length)) })
        ∧ (∀ m ∈ aborts,
            let x := s.messages.read m
            t.messages.read m = if x.mode = .streaming ∧ 1 < x.refCount then
              { x with state := .aborted, refCount := x.refCount - 1 } else Message.vacant)
        ∧ (∀ g d, s.turn = .inUse g d → (∃ m ∈ aborts, (s.messages.read m).publisher = g) → ∀ k, t.turn ≠ .inUse g k)
        ∧ (∀ m, (t.messages.read m).state = .filling → (t.messages.read m).channel ≠ c)
        ∧ (∀ i, (s.subs.read i).channel = c → (s.subs.read i).state ≠ .free → t.subs.read i = Subscription.free)
        ∧ (∀ i, (s.subs.read i).channel ≠ c → t.subs.read i = s.subs.read i)
        ∧ t.queues = s.queues
        ∧ (∀ e, t.entries.read e =
            match (s.entries.read e).subscription with
            | some i =>
              if (s.subs.read i).channel = c ∧ (s.subs.read i).state ≠ .free then
                { s.entries.read e with subscription := none }
              else s.entries.read e
            | none => s.entries.read e)
        ∧ (∀ d, d ≠ c → t.channels.read d = s.channels.read d)
        ∧ (∀ m, (s.messages.read m).state ≠ .filling ∨ (s.messages.read m).channel ≠ c →
            t.messages.read m = s.messages.read m)
        ∧ (∀ g,
            let mine := (List.finRange 128).filter (fun m => (s.messages.read m).state == .filling
              && (s.messages.read m).channel == c && (s.messages.read m).publisher == g)
            let own := (List.finRange 64).filter (fun i => (s.subs.read i).state != .free
              && (s.subs.read i).channel == c && (s.subs.read i).owner == g)
            let news : List Notice :=
              mine.map (fun m => .messageAborted (s.messages.read m).key (s.messages.read m).sequence)
                ++ own.map (fun i => .channelClosed (s.channels.read c).key i)
            (t.desks.read g).counters =
                (if mine = [] then (s.desks.read g).counters
                else { (s.desks.read g).counters with aborted := counted (s.desks.read g).counters.aborted })
              ∧ (s.isJoined g = true → (s.desks.read g).notices.length + news.length ≤ 16 →
                (t.desks.read g).notices = (s.desks.read g).notices ++ news ∧ (t.desks.read g).lost = (s.desks.read g).lost))
        ∧ t.members = s.members ∧ t.params = s.params ∧ t.vote = s.vote ∧ t.pool = s.pool ∧ t.now = s.now
        ∧ t.lastServed = s.lastServed ∧ ∀ g, (t.accounts.read g).quota = (s.accounts.read g).quota

/-! ## Subscriptions and matching -/

/-- SUBSCRIBE (R46): by its table, or the lowest FREE record becomes ACTIVE and the channel has one subscriber more. -/
def Obligations.SubscribeTakesLowestRecord : Prop :=
  ∀ (s : State) (h : HostId) (r : Request), channelTableLaw s → s.carries h .subscribe r →
    (∀ c, firstRefusal (subscribeRefusals s h r) = some c → exec (.subscribe h) s = .next (s.ended h c 0))
    ∧ ∀ i c, firstRefusal (subscribeRefusals s h r) = none → s.holdsKey r.key c = true →
      (s.subs.read i).state = .free → (∀ j, j < i → (s.subs.read j).state ≠ .free) →
      exec (.subscribe h) s = .next { s.ended h .ok (BitVec.ofNat 16 i.val) with
        subs := s.subs.write i
          { state := .active, owner := h, channel := c, matchBits := r.a, mask := r.b, limit := r.c.toNat
            policy := if r.d &&& 3 = 1 then .dropNew else .dropOldest, own := r.d.getLsbD 2, queued := 0 }
        channels := s.channels.write c
          { s.channels.read c with subscriberCount := (s.channels.read c).subscriberCount + 1 } }

/-- UNSUBSCRIBE (R48, R49, R50): by its table; with purge the QUEUED entries that name the record are removed one after
another, head first; the record is then freed, its entries lose their subscription field, and nothing else changes. -/
def Obligations.UnsubscribePurgesAndFrees : Prop :=
  ∀ (s : State) (h : HostId) (r : Request), s.carries h .unsubscribe r →
    (∀ c, firstRefusal (unsubscribeRefusals s h r) = some c → exec (.unsubscribe h) s = .next (s.ended h c 0))
    ∧ ∀ i : SubId, firstRefusal (unsubscribeRefusals s h r) = none → i.val = r.a.toNat →
      let gone := if r.d = 1 then (s.queues.read h).filter (fun e =>
          (s.entries.read e).state == .queued && (s.entries.read e).subscription == some i) else []
      let c := (s.subs.read i).channel
      ∃ u t, exec (.unsubscribe h) s = .next t ∧ Chain (Removed h) gone s u
        ∧ t = { u.ended h .ok (BitVec.ofNat 16 gone.length) with
            subs := u.subs.write i Subscription.free
            channels := u.channels.write c
              { u.channels.read c with subscriberCount := (u.channels.read c).subscriberCount - 1 }
            entries := t.entries }
        ∧ (∀ e, t.entries.read e = if (u.entries.read e).subscription = some i then
            { u.entries.read e with subscription := none } else u.entries.read e)
        ∧ ((s.queues.read h).Nodup → u.queues.read h = (s.queues.read h).filter (fun e => e ∉ gone))
        ∧ ∀ g, g ≠ h → u.queues.read g = s.queues.read g

/-- SUSPEND and RESUME (R51, R52): by their table, or the record is SUSPENDED or ACTIVE, and the last value is its queued
count. -/
def Obligations.SuspendAndResumeSetRecordState : Prop :=
  ∀ (s : State) (h : HostId) (r : Request),
    (s.carries h .suspend r →
      (∀ c, firstRefusal (restRefusals s h r) = some c → exec (.suspend h) s = .next (s.ended h c 0))
        ∧ ∀ i : SubId, firstRefusal (restRefusals s h r) = none → i.val = r.a.toNat →
          exec (.suspend h) s = .next { s.ended h .ok (BitVec.ofNat 16 (s.subs.read i).queued) with
            subs := s.subs.write i { s.subs.read i with state := .suspended } })
    ∧ (s.carries h .resume r →
      (∀ c, firstRefusal (restRefusals s h r) = some c → exec (.resume h) s = .next (s.ended h c 0))
        ∧ ∀ i : SubId, firstRefusal (restRefusals s h r) = none → i.val = r.a.toNat →
          exec (.resume h) s = .next { s.ended h .ok (BitVec.ofNat 16 (s.subs.read i).queued) with
            subs := s.subs.write i { s.subs.read i with state := .active } })

/-- The match condition (R55): ACTIVE, on the message's slot, equal to the tag in every bit of the mask, and not the
publisher's own unless its own flag is set. -/
def Obligations.MatchCondition : Prop :=
  ∀ (x : Subscription) (m : Message), x.passes m = true ↔
    x.state = .active ∧ x.channel = m.channel
      ∧ (∀ i < 16, x.mask.getLsbD i = true → m.tag.getLsbD i = x.matchBits.getLsbD i)
      ∧ (x.owner ≠ m.publisher ∨ x.own = true)

/-- The target list (R56, R57): each host with a matching record once, with the lowest of its matching records. -/
def Obligations.TargetsNameCarriers : Prop :=
  ∀ (s : State) (m : MsgId),
    (∀ h i, (h, i) ∈ s.targets m ↔
      (s.subs.read i).owner = h ∧ (s.subs.read i).passes (s.messages.read m) = true
        ∧ ∀ j, j < i → (s.subs.read j).owner = h → (s.subs.read j).passes (s.messages.read m) = false)
    ∧ ((s.targets m).map Prod.fst).Pairwise (· < ·)

/-! ## Deliveries -/

/-- One host's delivery or drop (R89 to R94): below its limit the carrier's delivery takes the lowest free entry, or is
dropped with POOL; at it, DROP_NEW drops with LIMIT, and DROP_OLDEST displaces its oldest QUEUED entry, whose message is
reported, or drops with LIMIT if it has none. The deliveries of a message (R56, R92): host by host in ascending number,
each by the carrier the target list gave it at the matching moment, each whole before the next. -/
def Obligations.DeliveryOutcome : Prop :=
  (∀ (s : State) (m : MsgId) (h : HostId) (i : SubId),
    let x := s.subs.read i
    let y := s.messages.read m
    let dropped (n : Notice) (u : State) : State :=
      { u with desks := u.desks.write h ((u.desks.read h).dropped (u.isJoined h) n) }
    let oldest := (s.queues.read h).find? (fun e =>
      (s.entries.read e).state == .queued && (s.entries.read e).subscription == some i)
    (∀ e, x.queued < x.limit → (s.entries.read e).inUse = false → (∀ f, f < e → (s.entries.read f).inUse = true) →
      deliver m h i s = s.appended h m i e)
    ∧ (x.queued < x.limit → (∀ e, (s.entries.read e).inUse = true) →
      deliver m h i s = dropped (.dropped i y.key y.sequence y.tag .pool) s)
    ∧ (x.limit ≤ x.queued → x.policy ≠ .dropOldest ∨ oldest = none →
      deliver m h i s = dropped (.dropped i y.key y.sequence y.tag .limit) s)
    ∧ ∀ e, x.limit ≤ x.queued → x.policy = .dropOldest → oldest = some e →
      let z := s.messages.read (s.entries.read e).message
      ∃ u, Removed h e s u
        ∧ deliver m h i s = (dropped (.dropped i z.key z.sequence z.tag .displaced) u).appended h m i e)
  ∧ ∀ (s : State) (m : MsgId) (carrier : HostId → Option SubId),
    (∀ h i, carrier h = some i ↔ (h, i) ∈ s.targets m) →
    let one (h : HostId) (u : State) : State := match carrier h with
      | some i => deliver m h i u
      | none => u
    createDeliveries m s = one 3 (one 2 (one 1 (one 0 s)))

/-- SKIP (R105): EMPTY on an empty queue; otherwise the head entry is removed, in whatever state, and the last value is
its message's sequence. -/
def Obligations.SkipRemovesHead : Prop :=
  ∀ (s : State) (h : HostId) (r : Request), s.carries h .skip r → s.isJoined h = true →
    (s.queues.read h = [] → exec (.skip h) s = .next (s.ended h .empty 0))
    ∧ ∀ e rest, s.queues.read h = e :: rest →
      ∃ t, exec (.skip h) s = .next t
        ∧ Removed h e (s.ended h .ok (s.messages.read (s.entries.read e).message).sequence) t
        ∧ t.queues.read h = rest

/-! ## Publishing -/

/-- BEGIN (R62, R64, R114, R115). Refused at one of its first nine checks, and nothing but the link changes. Past them:
refused WAIT as a claimant while another host holds the turn, and otherwise admitted into the lowest VACANT record with
the channel's next sequence; the turn is taken while rationed, and a STREAMING message's deliveries are created. -/
def Obligations.BeginStartsMessage : Prop :=
  ∀ (s : State) (h : HostId) (r : Request), channelTableLaw s → s.carries h .begin r →
    (∀ c, firstRefusal (beginRefusals s h r) = some c → exec (.begin h) s = .next (s.ended h c 0))
    ∧ ∀ i m, firstRefusal (beginRefusals s h r) = none → s.holdsKey r.key i = true →
      (s.messages.read m).state = .vacant → (∀ k, k < m → (s.messages.read k).state ≠ .vacant) →
      let c := s.channels.read i
      let x : Message :=
        { state := .filling, channel := i, key := c.key, publisher := h, tag := r.a, mode := c.mode
          sequence := c.nextSequence, declared := if r.d.getLsbD 0 then some r.b.toNat else none
          length := 0, head := none, tail := none, cellCount := 0, refCount := 1 }
      let y : Channel := { c with nextSequence := c.nextSequence + 1, liveCount := c.liveCount + 1 }
      let u (t : State) : State :=
        { t with messages := s.messages.write m x, channels := s.channels.write i y }.ended h .ok c.nextSequence
      let w (t : State) : State := if c.mode = .streaming then createDeliveries m (u t) else u t
      (s.rationed = false → exec (.begin h) s = .next (w s))
      ∧ (s.rationed = true → s.turn = .none → exec (.begin h) s = .next (w
          { s with turn := .inUse h (s.now + s.params.turnWindow), lastServed := some h }))
      ∧ (∀ d, s.rationed = true → s.turn = .granted h d → exec (.begin h) s = .next (w
          { s with turn := .inUse h d, lastServed := some h }))
      ∧ (s.rationed = true → (∃ g d, s.turn = .inUse g d ∨ (s.turn = .granted g d ∧ g ≠ h)) →
          exec (.begin h) s = .next { s.ended h .wait 0 with claimants := HostSet.insert s.claimants h })

/-- PUT (R67, R68, R69, R3, R6, R8, R11). Refused by its first three checks with last value 0, by LENGTH and NO_CELL with
the message's length. Accepted: the length rises by the payload, whose bytes are stored along the chain; the cell the
append needs, if any, leaves the head of the free list, is linked behind the old tail and charged to the host, whose
exhausted mark is judged, and the rationed flag is re-evaluated, an end of rationing clearing the turn record and latching
TURN; no other message, queue, entry, subscription or channel changes, nor does any host's notice or counter. -/
def Obligations.PutAppendsOrRefuses : Prop :=
  ∀ (s : State) (h : HostId) (r : Request), s.carries h .put r →
    (∀ c, firstRefusal (putRefusals s h r) = some c → exec (.put h) s = .next (s.ended h c 0))
    ∧ ∀ m, firstRefusal (putRefusals s h r) = none → s.fillingOf h = some m →
      let x := s.messages.read m
      let n := x.length + r.a.toNat
      let k := (n + 63) / 64 - (x.length + 63) / 64
      let a := s.accounts.read h
      (∀ c, firstRefusal (putLimits s h m r.a.toNat) = some c →
        exec (.put h) s = .next (s.ended h c (BitVec.ofNat 16 x.length)))
      ∧ (firstRefusal (putLimits s h m r.a.toNat) = none → (s.links.read h).payload.length = r.a.toNat →
        ∃ t, exec (.put h) s = .next t
          ∧ t.links = s.links.write h ((s.links.read h).ended .ok (BitVec.ofNat 16 n))
          ∧ t.freeList = s.freeList.drop k
          ∧ t.messages = s.messages.write m
            { x with
              length := n, cellCount := x.cellCount + k
              head := if k = 0 then x.head else some (x.head.getD (s.freeList.headD 0))
              tail := if k = 0 then x.tail else s.freeList.head? }
          ∧ t.pool = storeBytes (t.chainOf m) x.length (s.links.read h).payload s.pool
          ∧ (storageLaw s → ∀ j, t.cells.read j =
              if (t.messages.read m).tail = some j then { next := none, used := (n - 1) % 64 + 1 }
              else if k ≠ 0 ∧ x.tail = some j then { next := s.freeList.head?, used := 64 }
              else s.cells.read j)
          ∧ t.accounts = s.accounts.write h
            { a with
              charge := a.charge + k
              exhausted := if k = 0 then a.exhausted
                else markAfter a.exhausted (a.quota - (a.charge + k)) (s.members.read h).creditThreshold }
          ∧ t.rationed = (if k = 0 then s.rationed else rationedAfter s (s.freeList.length - k))
          ∧ t.turn = (if s.rationed = true ∧ t.rationed = false then .none else s.turn)
          ∧ t.claimants = (if s.rationed = true ∧ t.rationed = false then noHosts else s.claimants)
          ∧ (∀ g, t.desks.read g = (s.desks.read g).signalled
              ((s.accounts.read g).exhausted && !(t.accounts.read g).exhausted)
              (s.rationed && !t.rationed && (s.claimants.read g || s.turn.isGrantedTo g)))
          ∧ t.queues = s.queues ∧ t.entries = s.entries ∧ t.subs = s.subs ∧ t.channels = s.channels
          ∧ t.members = s.members ∧ t.params = s.params ∧ t.vote = s.vote ∧ t.now = s.now
          ∧ t.lastServed = s.lastServed ∧ t.resetAsserted = s.resetAsserted ∧ t.pending = s.pending)

/-- What a PUT appends is what readers read (R5, R6, R71): after it the message reads as before up to its old length and
as the payload beyond, and every other message reads as before. -/
def Obligations.PutBytesAreRead : Prop :=
  ∀ (s t : State) (h : HostId) (r : Request) (m : MsgId), storageLaw s → Memory.wf s.pool = true →
    s.carries h .put r → s.fillingOf h = some m → firstRefusal (putRefusals s h r) = none →
    firstRefusal (putLimits s h m r.a.toNat) = none → exec (.put h) s = .next t →
    t.readBytes m 0 (t.messages.read m).length =
        s.readBytes m 0 (s.messages.read m).length ++ (s.links.read h).payload
      ∧ ∀ j, j ≠ m → (s.messages.read j).isLive = true →
          t.readBytes j 0 (t.messages.read j).length = s.readBytes j 0 (s.messages.read j).length

/-- SEAL (R73, R74, R75, R77, R78). Refused by its table, and LENGTH with the message's length where a declared length
differs from it. Accepted: SEALED, the deliveries of a WHOLE message, the hold dropped with a freeing at count 0,
PUBLISHED and BYTES, and the end of a turn IN_USE, which passes to the next claimant (R117, R118); the last value is the
entries that refer to the message before the hold is dropped. -/
def Obligations.SealDeliversAndCounts : Prop :=
  ∀ (s : State) (h : HostId) (r : Request), s.carries h .sealMsg r →
    (∀ c, firstRefusal (endRefusals s h) = some c → exec (.sealMsg h) s = .next (s.ended h c 0))
    ∧ ∀ m, firstRefusal (endRefusals s h) = none → s.fillingOf h = some m →
      let x := s.messages.read m
      let u := { s with messages := s.messages.write m { x with state := .sealed } }
      let w := if x.mode = .whole then createDeliveries m u else u
      let value : Word16 := BitVec.ofNat 16 ((w.messages.read m).refCount - 1)
      (∀ d, x.declared = some d → d ≠ x.length →
        exec (.sealMsg h) s = .next (s.ended h .length (BitVec.ofNat 16 x.length)))
      ∧ ((∀ d, x.declared = some d → d = x.length) →
        ∃ v, Released m w v ∧ exec (.sealMsg h) s = .next
          (({ v with links := s.links.write h ((s.links.read h).ended .ok value) }.setDesk h
            { v.desks.read h with
              counters := { (v.desks.read h).counters with
                published := counted (v.desks.read h).counters.published
                bytes := (v.desks.read h).counters.bytes + BitVec.ofNat 40 x.length } }).turnEnded h))

/-- ABORT (R79, R80, R77, R117, R118). Refused by its table. Accepted: a STREAMING message becomes ABORTED; the hold is
dropped, with a freeing at count 0; ABORTED advances, a turn IN_USE ends and passes to the next claimant, and the last
value is the sequence. -/
def Obligations.AbortEndsMessage : Prop :=
  ∀ (s : State) (h : HostId) (r : Request), s.carries h .abort r →
    (∀ c, firstRefusal (endRefusals s h) = some c → exec (.abort h) s = .next (s.ended h c 0))
    ∧ ∀ m, firstRefusal (endRefusals s h) = none → s.fillingOf h = some m →
      ∃ t, exec (.abort h) s = .next t ∧ Aborted m (s.ended h .ok (s.messages.read m).sequence) t
        ∧ ∀ d, t.turn ≠ .inUse h d

/-! ## Cells, charge and turns -/

/-- The freeing of a message (R19, R4, R8, R11, R110, R112), with everything it does and nothing else. -/
def Obligations.FreeingAMessage : Prop :=
  ∀ (s : State) (m : MsgId), Freed m s (freeMessage m s)

/-- The judgement of the exhausted mark (R11), line by line. -/
def Obligations.ExhaustedMarkJudgement : Prop :=
  ∀ (s : State) (h : HostId),
    let a := s.accounts.read h
    let d := s.desks.read h
    let c := s.credit h
    (a.exhausted = false → c = 0 →
      judgeMark h s = { s with accounts := s.accounts.write h { a with exhausted := true } })
    ∧ (a.exhausted = false → 0 < c → judgeMark h s = s)
    ∧ (a.exhausted = true → c = 0 → judgeMark h s = s)
    ∧ (a.exhausted = true → 0 < c → c < (s.members.read h).creditThreshold → judgeMark h s = s)
    ∧ (a.exhausted = true → 0 < c → (s.members.read h).creditThreshold ≤ c →
      judgeMark h s = { s with
        accounts := s.accounts.write h { a with exhausted := false }
        desks := s.desks.write h { d with latches := { d.latches with credit := true } } })

/-- The rationed flag (R109) and the end of rationing (R112): the flag by the rule's table; its end clears the turn
record and latches TURN for every claimant and a GRANTED holder; nothing else changes. -/
def Obligations.RationedFlagJudgement : Prop :=
  ∀ s : State,
    let t := reevaluate s
    (s.rationed = false → s.freeList.length ≤ s.params.reserveThreshold → t = { s with rationed := true })
    ∧ (s.rationed = false → s.params.reserveThreshold < s.freeList.length → t = s)
    ∧ (s.rationed = true → s.freeList.length < s.params.reserveThreshold + 16 → t = s)
    ∧ (s.rationed = true → s.params.reserveThreshold + 16 ≤ s.freeList.length →
      t = { s with rationed := false, turn := .none, claimants := noHosts, desks := t.desks }
        ∧ ∀ h, t.desks.read h =
          if s.claimants.read h || s.turn.isGrantedTo h then (s.desks.read h).turnLatched else s.desks.read h)

/-- The grant (R118): under precedence the lowest claimant; under round robin the first claimant met from the host after
the last-served one, which itself comes last, or from host 0 where none was served. -/
def Obligations.NextTurnFollowsOrder : Prop :=
  ∀ (s : State) (h : HostId),
    (s.nextClaimant = none ↔ s.claimants = noHosts)
    ∧ (s.nextClaimant = some h ↔ s.claimants.read h = true ∧ ∀ g, s.claimants.read g = true → g ≠ h →
        if s.params.precedence = true then h < g
        else match s.lastServed with
          | none => h < g
          | some l => (h.val + 3 - l.val) % 4 < (g.val + 3 - l.val) % 4)

/-! ## Invariants -/

/-- Reset is sound: the twelve laws hold there, and all they rest on. -/
def Obligations.ResetIsSound : Prop := Sound State.reset ∧ turnRecordLaw State.reset

/-- Every step keeps the eleventh law (R160), and every step keeps the twelfth (R168). -/
def Obligations.StepKeepsVoteAndNoticeLaws : Prop :=
  ∀ s t : State, step s = .next t → (eleventhLaw s → eleventhLaw t) ∧ (twelfthLaw s → twelfthLaw t)

/-- Every step keeps the pool's canonical form. -/
def Obligations.StepKeepsPoolForm : Prop :=
  ∀ s t : State, Memory.wf s.pool = true → step s = .next t → Memory.wf t.pool = true

/-- Every step keeps every framer in order. -/
def Obligations.StepKeepsFramers : Prop :=
  ∀ s t : State, linkLaw s → step s = .next t → linkLaw t

/-- Every step keeps the Channel Table in order, the eighth law and the keys of the seventh among it. -/
def Obligations.StepKeepsChannelTable : Prop :=
  ∀ s t : State, channelTableLaw s → step s = .next t → channelTableLaw t

/-- Every step keeps the Subscription Table in order. -/
def Obligations.StepKeepsSubscriptionTable : Prop :=
  ∀ s t : State, subscriptionTableLaw s → step s = .next t → subscriptionTableLaw t

/-- Every step keeps the turn record in order. -/
def Obligations.StepKeepsTurnRecord : Prop :=
  ∀ s t : State, turnRecordLaw s → step s = .next t → turnRecordLaw t

/-- Every step keeps the sixth law (R60), and what R148, R12, R106, R151 and R170 say of a host that is not JOINED
(`departedLaw`): no subscription, an empty delivery queue, no FILLING message, no turn and no claim, no vote, an empty
notice queue with lost count 0, no lease deadline, and a clear exhausted mark. -/
def Obligations.StepKeepsDeparted : Prop :=
  ∀ s t : State, fillingLaw s → departedLaw s → step s = .next t → fillingLaw t ∧ departedLaw t

/-- Every step keeps the first and second laws (R7, R8) and the chains of the messages. -/
def Obligations.StepKeepsStorage : Prop :=
  ∀ s t : State, storageLaw s → step s = .next t → storageLaw t

/-- Every step keeps the third, fourth, fifth, seventh and ninth laws (R16, R86, R87, R88, R27, R44). -/
def Obligations.StepKeepsDeliveries : Prop :=
  ∀ s t : State, deliveryLaw s → step s = .next t → deliveryLaw t

/-- Every step keeps a sound state sound: all twelve laws at once, and no deadline behind the time (R188). -/
def Obligations.StepKeepsSound : Prop :=
  ∀ s t : State, Sound s → step s = .next t → Sound t
end

