-- ==== Sys2Proof/Laws/State.lean ====
section
/-! SUPPORT. The small lemmas of tables and of the one-record updates of State: one lemma per field per update, true by
`rfl`, so that no later proof unfolds a record update. -/

namespace Sys2Proof

/-! ## Tables -/

namespace Table

variable {α : Type} {n : Nat}

@[simp] theorem read_write_self (t : Table α n) (i : Fin n) (a : α) : (t.write i a).read i = a := by
  simp [Table.read, Table.write]

theorem read_write_ne (t : Table α n) {i j : Fin n} (a : α) (h : j ≠ i) : (t.write i a).read j = t.read j := by
  have hv : i.val ≠ j.val := fun hh => h (Fin.ext hh.symm)
  simp [Table.read, Table.write, hv]

theorem read_write (t : Table α n) (i j : Fin n) (a : α) :
    (t.write i a).read j = if j = i then a else t.read j := by
  split
  · next h => subst h; simp
  · next h => exact read_write_ne t a h

theorem ext {t u : Table α n} (h : ∀ i, t.read i = u.read i) : t = u := by
  apply Vector.ext
  intro i hi
  exact h ⟨i, hi⟩

@[simp] theorem write_write (t : Table α n) (i : Fin n) (a b : α) : (t.write i a).write i b = t.write i b := by
  apply ext; intro j; simp only [read_write]; split <;> rfl

@[simp] theorem write_read (t : Table α n) (i : Fin n) : t.write i (t.read i) = t := by
  apply ext; intro j; rw [read_write]; split
  · next h => rw [h]
  · rfl

theorem write_comm (t : Table α n) {i j : Fin n} (a b : α) (h : i ≠ j) :
    (t.write i a).write j b = (t.write j b).write i a := by
  apply ext; intro k; simp only [read_write]; split <;> split <;> simp_all

@[simp] theorem read_update_self (t : Table α n) (i : Fin n) (f : α → α) : (t.update i f).read i = f (t.read i) := by
  simp [Table.update]

theorem read_update (t : Table α n) (i j : Fin n) (f : α → α) :
    (t.update i f).read j = if j = i then f (t.read i) else t.read j := by
  simp [Table.update, read_write]

theorem read_update_ne (t : Table α n) {i j : Fin n} (f : α → α) (h : j ≠ i) :
    (t.update i f).read j = t.read j := by simp [read_update, h]

@[simp] theorem update_update (t : Table α n) (i : Fin n) (f g : α → α) :
    (t.update i f).update i g = t.update i (fun a => g (f a)) := by
  simp [Table.update]

@[simp] theorem read_mapAll (t : Table α n) (f : α → α) (i : Fin n) : (t.mapAll f).read i = f (t.read i) := by
  simp [Table.read, Table.mapAll]

@[simp] theorem read_replicate (a : α) (i : Fin n) : Table.read (Vector.replicate n a) i = a := by
  simp [Table.read]

theorem lowest_some {t : Table α n} {p : α → Bool} {i : Fin n} (h : t.lowest p = some i) : p (t.read i) = true := by
  simpa using List.find?_some h

theorem lowest_none {t : Table α n} {p : α → Bool} (h : t.lowest p = none) (i : Fin n) : p (t.read i) = false := by
  have := List.find?_eq_none.mp h i (List.mem_finRange i)
  simpa using this

@[simp] theorem mem_indices (t : Table α n) (p : α → Bool) (i : Fin n) : i ∈ t.indices p ↔ p (t.read i) = true := by
  simp [Table.indices]

end Table

@[simp] theorem HostSet.read_insert (hs : HostSet) (h g : HostId) :
    Table.read (hs.insert h) g = if g = h then true else hs.read g := by
  simp [HostSet.insert, Table.read_write]

@[simp] theorem HostSet.read_erase (hs : HostSet) (h g : HostId) :
    Table.read (hs.erase h) g = if g = h then false else hs.read g := by
  simp [HostSet.erase, Table.read_write]

namespace Machine

@[simp] theorem noHosts_read (h : HostId) : Table.read noHosts h = false := by simp [noHosts]

theorem joinedHosts_read (s : State) (h : HostId) : s.joinedHosts.read h = s.isJoined h := by
  fin_cases h <;> rfl

@[simp] theorem mem_allHosts (h : HostId) : h ∈ allHosts := by fin_cases h <;> simp [allHosts]

namespace State

/-! ## `modAccount` -/

section
variable (s : State) (i : HostId) (f : Account → Account)

@[simp] theorem modAccount_pending : (s.modAccount i f).pending = s.pending := rfl
@[simp] theorem modAccount_now : (s.modAccount i f).now = s.now := rfl
@[simp] theorem modAccount_resetAsserted : (s.modAccount i f).resetAsserted = s.resetAsserted := rfl
@[simp] theorem modAccount_pool : (s.modAccount i f).pool = s.pool := rfl
@[simp] theorem modAccount_cells : (s.modAccount i f).cells = s.cells := rfl
@[simp] theorem modAccount_freeList : (s.modAccount i f).freeList = s.freeList := rfl
@[simp] theorem modAccount_accounts : (s.modAccount i f).accounts = s.accounts.update i f := rfl
@[simp] theorem modAccount_messages : (s.modAccount i f).messages = s.messages := rfl
@[simp] theorem modAccount_channels : (s.modAccount i f).channels = s.channels := rfl
@[simp] theorem modAccount_subs : (s.modAccount i f).subs = s.subs := rfl
@[simp] theorem modAccount_entries : (s.modAccount i f).entries = s.entries := rfl
@[simp] theorem modAccount_queues : (s.modAccount i f).queues = s.queues := rfl
@[simp] theorem modAccount_rationed : (s.modAccount i f).rationed = s.rationed := rfl
@[simp] theorem modAccount_turn : (s.modAccount i f).turn = s.turn := rfl
@[simp] theorem modAccount_claimants : (s.modAccount i f).claimants = s.claimants := rfl
@[simp] theorem modAccount_lastServed : (s.modAccount i f).lastServed = s.lastServed := rfl
@[simp] theorem modAccount_members : (s.modAccount i f).members = s.members := rfl
@[simp] theorem modAccount_params : (s.modAccount i f).params = s.params := rfl
@[simp] theorem modAccount_vote : (s.modAccount i f).vote = s.vote := rfl
@[simp] theorem modAccount_desks : (s.modAccount i f).desks = s.desks := rfl
@[simp] theorem modAccount_links : (s.modAccount i f).links = s.links := rfl

end

/-! ## `modCell` -/

section
variable (s : State) (i : CellId) (f : CellRec → CellRec)

@[simp] theorem modCell_pending : (s.modCell i f).pending = s.pending := rfl
@[simp] theorem modCell_now : (s.modCell i f).now = s.now := rfl
@[simp] theorem modCell_resetAsserted : (s.modCell i f).resetAsserted = s.resetAsserted := rfl
@[simp] theorem modCell_pool : (s.modCell i f).pool = s.pool := rfl
@[simp] theorem modCell_cells : (s.modCell i f).cells = s.cells.update i f := rfl
@[simp] theorem modCell_freeList : (s.modCell i f).freeList = s.freeList := rfl
@[simp] theorem modCell_accounts : (s.modCell i f).accounts = s.accounts := rfl
@[simp] theorem modCell_messages : (s.modCell i f).messages = s.messages := rfl
@[simp] theorem modCell_channels : (s.modCell i f).channels = s.channels := rfl
@[simp] theorem modCell_subs : (s.modCell i f).subs = s.subs := rfl
@[simp] theorem modCell_entries : (s.modCell i f).entries = s.entries := rfl
@[simp] theorem modCell_queues : (s.modCell i f).queues = s.queues := rfl
@[simp] theorem modCell_rationed : (s.modCell i f).rationed = s.rationed := rfl
@[simp] theorem modCell_turn : (s.modCell i f).turn = s.turn := rfl
@[simp] theorem modCell_claimants : (s.modCell i f).claimants = s.claimants := rfl
@[simp] theorem modCell_lastServed : (s.modCell i f).lastServed = s.lastServed := rfl
@[simp] theorem modCell_members : (s.modCell i f).members = s.members := rfl
@[simp] theorem modCell_params : (s.modCell i f).params = s.params := rfl
@[simp] theorem modCell_vote : (s.modCell i f).vote = s.vote := rfl
@[simp] theorem modCell_desks : (s.modCell i f).desks = s.desks := rfl
@[simp] theorem modCell_links : (s.modCell i f).links = s.links := rfl

end

/-! ## `modMessage` -/

section
variable (s : State) (i : MsgId) (f : Message → Message)

@[simp] theorem modMessage_pending : (s.modMessage i f).pending = s.pending := rfl
@[simp] theorem modMessage_now : (s.modMessage i f).now = s.now := rfl
@[simp] theorem modMessage_resetAsserted : (s.modMessage i f).resetAsserted = s.resetAsserted := rfl
@[simp] theorem modMessage_pool : (s.modMessage i f).pool = s.pool := rfl
@[simp] theorem modMessage_cells : (s.modMessage i f).cells = s.cells := rfl
@[simp] theorem modMessage_freeList : (s.modMessage i f).freeList = s.freeList := rfl
@[simp] theorem modMessage_accounts : (s.modMessage i f).accounts = s.accounts := rfl
@[simp] theorem modMessage_messages : (s.modMessage i f).messages = s.messages.update i f := rfl
@[simp] theorem modMessage_channels : (s.modMessage i f).channels = s.channels := rfl
@[simp] theorem modMessage_subs : (s.modMessage i f).subs = s.subs := rfl
@[simp] theorem modMessage_entries : (s.modMessage i f).entries = s.entries := rfl
@[simp] theorem modMessage_queues : (s.modMessage i f).queues = s.queues := rfl
@[simp] theorem modMessage_rationed : (s.modMessage i f).rationed = s.rationed := rfl
@[simp] theorem modMessage_turn : (s.modMessage i f).turn = s.turn := rfl
@[simp] theorem modMessage_claimants : (s.modMessage i f).claimants = s.claimants := rfl
@[simp] theorem modMessage_lastServed : (s.modMessage i f).lastServed = s.lastServed := rfl
@[simp] theorem modMessage_members : (s.modMessage i f).members = s.members := rfl
@[simp] theorem modMessage_params : (s.modMessage i f).params = s.params := rfl
@[simp] theorem modMessage_vote : (s.modMessage i f).vote = s.vote := rfl
@[simp] theorem modMessage_desks : (s.modMessage i f).desks = s.desks := rfl
@[simp] theorem modMessage_links : (s.modMessage i f).links = s.links := rfl

end

/-! ## `modChannel` -/

section
variable (s : State) (i : ChanId) (f : Channel → Channel)

@[simp] theorem modChannel_pending : (s.modChannel i f).pending = s.pending := rfl
@[simp] theorem modChannel_now : (s.modChannel i f).now = s.now := rfl
@[simp] theorem modChannel_resetAsserted : (s.modChannel i f).resetAsserted = s.resetAsserted := rfl
@[simp] theorem modChannel_pool : (s.modChannel i f).pool = s.pool := rfl
@[simp] theorem modChannel_cells : (s.modChannel i f).cells = s.cells := rfl
@[simp] theorem modChannel_freeList : (s.modChannel i f).freeList = s.freeList := rfl
@[simp] theorem modChannel_accounts : (s.modChannel i f).accounts = s.accounts := rfl
@[simp] theorem modChannel_messages : (s.modChannel i f).messages = s.messages := rfl
@[simp] theorem modChannel_channels : (s.modChannel i f).channels = s.channels.update i f := rfl
@[simp] theorem modChannel_subs : (s.modChannel i f).subs = s.subs := rfl
@[simp] theorem modChannel_entries : (s.modChannel i f).entries = s.entries := rfl
@[simp] theorem modChannel_queues : (s.modChannel i f).queues = s.queues := rfl
@[simp] theorem modChannel_rationed : (s.modChannel i f).rationed = s.rationed := rfl
@[simp] theorem modChannel_turn : (s.modChannel i f).turn = s.turn := rfl
@[simp] theorem modChannel_claimants : (s.modChannel i f).claimants = s.claimants := rfl
@[simp] theorem modChannel_lastServed : (s.modChannel i f).lastServed = s.lastServed := rfl
@[simp] theorem modChannel_members : (s.modChannel i f).members = s.members := rfl
@[simp] theorem modChannel_params : (s.modChannel i f).params = s.params := rfl
@[simp] theorem modChannel_vote : (s.modChannel i f).vote = s.vote := rfl
@[simp] theorem modChannel_desks : (s.modChannel i f).desks = s.desks := rfl
@[simp] theorem modChannel_links : (s.modChannel i f).links = s.links := rfl

end

/-! ## `modSub` -/

section
variable (s : State) (i : SubId) (f : Subscription → Subscription)

@[simp] theorem modSub_pending : (s.modSub i f).pending = s.pending := rfl
@[simp] theorem modSub_now : (s.modSub i f).now = s.now := rfl
@[simp] theorem modSub_resetAsserted : (s.modSub i f).resetAsserted = s.resetAsserted := rfl
@[simp] theorem modSub_pool : (s.modSub i f).pool = s.pool := rfl
@[simp] theorem modSub_cells : (s.modSub i f).cells = s.cells := rfl
@[simp] theorem modSub_freeList : (s.modSub i f).freeList = s.freeList := rfl
@[simp] theorem modSub_accounts : (s.modSub i f).accounts = s.accounts := rfl
@[simp] theorem modSub_messages : (s.modSub i f).messages = s.messages := rfl
@[simp] theorem modSub_channels : (s.modSub i f).channels = s.channels := rfl
@[simp] theorem modSub_subs : (s.modSub i f).subs = s.subs.update i f := rfl
@[simp] theorem modSub_entries : (s.modSub i f).entries = s.entries := rfl
@[simp] theorem modSub_queues : (s.modSub i f).queues = s.queues := rfl
@[simp] theorem modSub_rationed : (s.modSub i f).rationed = s.rationed := rfl
@[simp] theorem modSub_turn : (s.modSub i f).turn = s.turn := rfl
@[simp] theorem modSub_claimants : (s.modSub i f).claimants = s.claimants := rfl
@[simp] theorem modSub_lastServed : (s.modSub i f).lastServed = s.lastServed := rfl
@[simp] theorem modSub_members : (s.modSub i f).members = s.members := rfl
@[simp] theorem modSub_params : (s.modSub i f).params = s.params := rfl
@[simp] theorem modSub_vote : (s.modSub i f).vote = s.vote := rfl
@[simp] theorem modSub_desks : (s.modSub i f).desks = s.desks := rfl
@[simp] theorem modSub_links : (s.modSub i f).links = s.links := rfl

end

/-! ## `modEntry` -/

section
variable (s : State) (i : EntryId) (f : Entry → Entry)

@[simp] theorem modEntry_pending : (s.modEntry i f).pending = s.pending := rfl
@[simp] theorem modEntry_now : (s.modEntry i f).now = s.now := rfl
@[simp] theorem modEntry_resetAsserted : (s.modEntry i f).resetAsserted = s.resetAsserted := rfl
@[simp] theorem modEntry_pool : (s.modEntry i f).pool = s.pool := rfl
@[simp] theorem modEntry_cells : (s.modEntry i f).cells = s.cells := rfl
@[simp] theorem modEntry_freeList : (s.modEntry i f).freeList = s.freeList := rfl
@[simp] theorem modEntry_accounts : (s.modEntry i f).accounts = s.accounts := rfl
@[simp] theorem modEntry_messages : (s.modEntry i f).messages = s.messages := rfl
@[simp] theorem modEntry_channels : (s.modEntry i f).channels = s.channels := rfl
@[simp] theorem modEntry_subs : (s.modEntry i f).subs = s.subs := rfl
@[simp] theorem modEntry_entries : (s.modEntry i f).entries = s.entries.update i f := rfl
@[simp] theorem modEntry_queues : (s.modEntry i f).queues = s.queues := rfl
@[simp] theorem modEntry_rationed : (s.modEntry i f).rationed = s.rationed := rfl
@[simp] theorem modEntry_turn : (s.modEntry i f).turn = s.turn := rfl
@[simp] theorem modEntry_claimants : (s.modEntry i f).claimants = s.claimants := rfl
@[simp] theorem modEntry_lastServed : (s.modEntry i f).lastServed = s.lastServed := rfl
@[simp] theorem modEntry_members : (s.modEntry i f).members = s.members := rfl
@[simp] theorem modEntry_params : (s.modEntry i f).params = s.params := rfl
@[simp] theorem modEntry_vote : (s.modEntry i f).vote = s.vote := rfl
@[simp] theorem modEntry_desks : (s.modEntry i f).desks = s.desks := rfl
@[simp] theorem modEntry_links : (s.modEntry i f).links = s.links := rfl

end

/-! ## `modQueue` -/

section
variable (s : State) (i : HostId) (f : List EntryId → List EntryId)

@[simp] theorem modQueue_pending : (s.modQueue i f).pending = s.pending := rfl
@[simp] theorem modQueue_now : (s.modQueue i f).now = s.now := rfl
@[simp] theorem modQueue_resetAsserted : (s.modQueue i f).resetAsserted = s.resetAsserted := rfl
@[simp] theorem modQueue_pool : (s.modQueue i f).pool = s.pool := rfl
@[simp] theorem modQueue_cells : (s.modQueue i f).cells = s.cells := rfl
@[simp] theorem modQueue_freeList : (s.modQueue i f).freeList = s.freeList := rfl
@[simp] theorem modQueue_accounts : (s.modQueue i f).accounts = s.accounts := rfl
@[simp] theorem modQueue_messages : (s.modQueue i f).messages = s.messages := rfl
@[simp] theorem modQueue_channels : (s.modQueue i f).channels = s.channels := rfl
@[simp] theorem modQueue_subs : (s.modQueue i f).subs = s.subs := rfl
@[simp] theorem modQueue_entries : (s.modQueue i f).entries = s.entries := rfl
@[simp] theorem modQueue_queues : (s.modQueue i f).queues = s.queues.update i f := rfl
@[simp] theorem modQueue_rationed : (s.modQueue i f).rationed = s.rationed := rfl
@[simp] theorem modQueue_turn : (s.modQueue i f).turn = s.turn := rfl
@[simp] theorem modQueue_claimants : (s.modQueue i f).claimants = s.claimants := rfl
@[simp] theorem modQueue_lastServed : (s.modQueue i f).lastServed = s.lastServed := rfl
@[simp] theorem modQueue_members : (s.modQueue i f).members = s.members := rfl
@[simp] theorem modQueue_params : (s.modQueue i f).params = s.params := rfl
@[simp] theorem modQueue_vote : (s.modQueue i f).vote = s.vote := rfl
@[simp] theorem modQueue_desks : (s.modQueue i f).desks = s.desks := rfl
@[simp] theorem modQueue_links : (s.modQueue i f).links = s.links := rfl

end

/-! ## `modMember` -/

section
variable (s : State) (i : HostId) (f : Member → Member)

@[simp] theorem modMember_pending : (s.modMember i f).pending = s.pending := rfl
@[simp] theorem modMember_now : (s.modMember i f).now = s.now := rfl
@[simp] theorem modMember_resetAsserted : (s.modMember i f).resetAsserted = s.resetAsserted := rfl
@[simp] theorem modMember_pool : (s.modMember i f).pool = s.pool := rfl
@[simp] theorem modMember_cells : (s.modMember i f).cells = s.cells := rfl
@[simp] theorem modMember_freeList : (s.modMember i f).freeList = s.freeList := rfl
@[simp] theorem modMember_accounts : (s.modMember i f).accounts = s.accounts := rfl
@[simp] theorem modMember_messages : (s.modMember i f).messages = s.messages := rfl
@[simp] theorem modMember_channels : (s.modMember i f).channels = s.channels := rfl
@[simp] theorem modMember_subs : (s.modMember i f).subs = s.subs := rfl
@[simp] theorem modMember_entries : (s.modMember i f).entries = s.entries := rfl
@[simp] theorem modMember_queues : (s.modMember i f).queues = s.queues := rfl
@[simp] theorem modMember_rationed : (s.modMember i f).rationed = s.rationed := rfl
@[simp] theorem modMember_turn : (s.modMember i f).turn = s.turn := rfl
@[simp] theorem modMember_claimants : (s.modMember i f).claimants = s.claimants := rfl
@[simp] theorem modMember_lastServed : (s.modMember i f).lastServed = s.lastServed := rfl
@[simp] theorem modMember_members : (s.modMember i f).members = s.members.update i f := rfl
@[simp] theorem modMember_params : (s.modMember i f).params = s.params := rfl
@[simp] theorem modMember_vote : (s.modMember i f).vote = s.vote := rfl
@[simp] theorem modMember_desks : (s.modMember i f).desks = s.desks := rfl
@[simp] theorem modMember_links : (s.modMember i f).links = s.links := rfl

end

/-! ## `modDesk` -/

section
variable (s : State) (i : HostId) (f : Desk → Desk)

@[simp] theorem modDesk_pending : (s.modDesk i f).pending = s.pending := rfl
@[simp] theorem modDesk_now : (s.modDesk i f).now = s.now := rfl
@[simp] theorem modDesk_resetAsserted : (s.modDesk i f).resetAsserted = s.resetAsserted := rfl
@[simp] theorem modDesk_pool : (s.modDesk i f).pool = s.pool := rfl
@[simp] theorem modDesk_cells : (s.modDesk i f).cells = s.cells := rfl
@[simp] theorem modDesk_freeList : (s.modDesk i f).freeList = s.freeList := rfl
@[simp] theorem modDesk_accounts : (s.modDesk i f).accounts = s.accounts := rfl
@[simp] theorem modDesk_messages : (s.modDesk i f).messages = s.messages := rfl
@[simp] theorem modDesk_channels : (s.modDesk i f).channels = s.channels := rfl
@[simp] theorem modDesk_subs : (s.modDesk i f).subs = s.subs := rfl
@[simp] theorem modDesk_entries : (s.modDesk i f).entries = s.entries := rfl
@[simp] theorem modDesk_queues : (s.modDesk i f).queues = s.queues := rfl
@[simp] theorem modDesk_rationed : (s.modDesk i f).rationed = s.rationed := rfl
@[simp] theorem modDesk_turn : (s.modDesk i f).turn = s.turn := rfl
@[simp] theorem modDesk_claimants : (s.modDesk i f).claimants = s.claimants := rfl
@[simp] theorem modDesk_lastServed : (s.modDesk i f).lastServed = s.lastServed := rfl
@[simp] theorem modDesk_members : (s.modDesk i f).members = s.members := rfl
@[simp] theorem modDesk_params : (s.modDesk i f).params = s.params := rfl
@[simp] theorem modDesk_vote : (s.modDesk i f).vote = s.vote := rfl
@[simp] theorem modDesk_desks : (s.modDesk i f).desks = s.desks.update i f := rfl
@[simp] theorem modDesk_links : (s.modDesk i f).links = s.links := rfl

end

/-! ## `modLink` -/

section
variable (s : State) (i : HostId) (f : Link → Link)

@[simp] theorem modLink_pending : (s.modLink i f).pending = s.pending := rfl
@[simp] theorem modLink_now : (s.modLink i f).now = s.now := rfl
@[simp] theorem modLink_resetAsserted : (s.modLink i f).resetAsserted = s.resetAsserted := rfl
@[simp] theorem modLink_pool : (s.modLink i f).pool = s.pool := rfl
@[simp] theorem modLink_cells : (s.modLink i f).cells = s.cells := rfl
@[simp] theorem modLink_freeList : (s.modLink i f).freeList = s.freeList := rfl
@[simp] theorem modLink_accounts : (s.modLink i f).accounts = s.accounts := rfl
@[simp] theorem modLink_messages : (s.modLink i f).messages = s.messages := rfl
@[simp] theorem modLink_channels : (s.modLink i f).channels = s.channels := rfl
@[simp] theorem modLink_subs : (s.modLink i f).subs = s.subs := rfl
@[simp] theorem modLink_entries : (s.modLink i f).entries = s.entries := rfl
@[simp] theorem modLink_queues : (s.modLink i f).queues = s.queues := rfl
@[simp] theorem modLink_rationed : (s.modLink i f).rationed = s.rationed := rfl
@[simp] theorem modLink_turn : (s.modLink i f).turn = s.turn := rfl
@[simp] theorem modLink_claimants : (s.modLink i f).claimants = s.claimants := rfl
@[simp] theorem modLink_lastServed : (s.modLink i f).lastServed = s.lastServed := rfl
@[simp] theorem modLink_members : (s.modLink i f).members = s.members := rfl
@[simp] theorem modLink_params : (s.modLink i f).params = s.params := rfl
@[simp] theorem modLink_vote : (s.modLink i f).vote = s.vote := rfl
@[simp] theorem modLink_desks : (s.modLink i f).desks = s.desks := rfl
@[simp] theorem modLink_links : (s.modLink i f).links = s.links.update i f := rfl

end

/-! ## `modCounters` -/

section
variable (s : State) (i : HostId) (f : Counters → Counters)

@[simp] theorem modCounters_pending : (s.modCounters i f).pending = s.pending := rfl
@[simp] theorem modCounters_now : (s.modCounters i f).now = s.now := rfl
@[simp] theorem modCounters_resetAsserted : (s.modCounters i f).resetAsserted = s.resetAsserted := rfl
@[simp] theorem modCounters_pool : (s.modCounters i f).pool = s.pool := rfl
@[simp] theorem modCounters_cells : (s.modCounters i f).cells = s.cells := rfl
@[simp] theorem modCounters_freeList : (s.modCounters i f).freeList = s.freeList := rfl
@[simp] theorem modCounters_accounts : (s.modCounters i f).accounts = s.accounts := rfl
@[simp] theorem modCounters_messages : (s.modCounters i f).messages = s.messages := rfl
@[simp] theorem modCounters_channels : (s.modCounters i f).channels = s.channels := rfl
@[simp] theorem modCounters_subs : (s.modCounters i f).subs = s.subs := rfl
@[simp] theorem modCounters_entries : (s.modCounters i f).entries = s.entries := rfl
@[simp] theorem modCounters_queues : (s.modCounters i f).queues = s.queues := rfl
@[simp] theorem modCounters_rationed : (s.modCounters i f).rationed = s.rationed := rfl
@[simp] theorem modCounters_turn : (s.modCounters i f).turn = s.turn := rfl
@[simp] theorem modCounters_claimants : (s.modCounters i f).claimants = s.claimants := rfl
@[simp] theorem modCounters_lastServed : (s.modCounters i f).lastServed = s.lastServed := rfl
@[simp] theorem modCounters_members : (s.modCounters i f).members = s.members := rfl
@[simp] theorem modCounters_params : (s.modCounters i f).params = s.params := rfl
@[simp] theorem modCounters_vote : (s.modCounters i f).vote = s.vote := rfl
@[simp] theorem modCounters_desks :
    (s.modCounters i f).desks = s.desks.update i (fun d => { d with counters := f d.counters }) := rfl
@[simp] theorem modCounters_links : (s.modCounters i f).links = s.links := rfl

end

end State

end Machine

end Sys2Proof
end

