-- ==== Sys2Proof/Laws/Frames.lean ====
section
/-! SUPPORT. What each shared operation leaves unchanged: one lemma per operation, the conjunction of the fields of State
it does not touch. -/

namespace Sys2Proof.Machine

/-- A fold keeps what each of its steps keeps. -/
theorem foldl_keeps {σ α β : Type} (g : σ → β) (f : σ → α → σ) (l : List α) (s : σ)
    (h : ∀ s a, g (f s a) = g s) : g (l.foldl f s) = g s := by
  induction l generalizing s with
  | nil => rfl
  | cons a l ih => rw [List.foldl_cons, ih, h]

@[simp] theorem latch_frame (h : HostId) (c : Cause) (s : State) :
    (latch h c s).pending = s.pending ∧ (latch h c s).now = s.now ∧ (latch h c s).resetAsserted = s.resetAsserted ∧
    (latch h c s).pool = s.pool ∧ (latch h c s).cells = s.cells ∧ (latch h c s).freeList = s.freeList ∧
    (latch h c s).accounts = s.accounts ∧ (latch h c s).messages = s.messages ∧ (latch h c s).channels = s.channels ∧
    (latch h c s).subs = s.subs ∧ (latch h c s).entries = s.entries ∧ (latch h c s).queues = s.queues ∧
    (latch h c s).rationed = s.rationed ∧ (latch h c s).turn = s.turn ∧ (latch h c s).claimants = s.claimants ∧
    (latch h c s).lastServed = s.lastServed ∧ (latch h c s).members = s.members ∧ (latch h c s).params = s.params ∧
    (latch h c s).vote = s.vote ∧ (latch h c s).links = s.links := by
  simp [latch]

@[simp] theorem post_frame (h : HostId) (n : Notice) (s : State) :
    (post h n s).pending = s.pending ∧ (post h n s).now = s.now ∧ (post h n s).resetAsserted = s.resetAsserted ∧
    (post h n s).pool = s.pool ∧ (post h n s).cells = s.cells ∧ (post h n s).freeList = s.freeList ∧
    (post h n s).accounts = s.accounts ∧ (post h n s).messages = s.messages ∧ (post h n s).channels = s.channels ∧
    (post h n s).subs = s.subs ∧ (post h n s).entries = s.entries ∧ (post h n s).queues = s.queues ∧
    (post h n s).rationed = s.rationed ∧ (post h n s).turn = s.turn ∧ (post h n s).claimants = s.claimants ∧
    (post h n s).lastServed = s.lastServed ∧ (post h n s).members = s.members ∧ (post h n s).params = s.params ∧
    (post h n s).vote = s.vote ∧ (post h n s).links = s.links := by
  unfold post
  repeat' split
  all_goals simp

@[simp] theorem postAll_frame (n : Notice) (s : State) :
    (postAll n s).pending = s.pending ∧ (postAll n s).now = s.now ∧ (postAll n s).resetAsserted = s.resetAsserted ∧
    (postAll n s).pool = s.pool ∧ (postAll n s).cells = s.cells ∧ (postAll n s).freeList = s.freeList ∧
    (postAll n s).accounts = s.accounts ∧ (postAll n s).messages = s.messages ∧ (postAll n s).channels = s.channels ∧
    (postAll n s).subs = s.subs ∧ (postAll n s).entries = s.entries ∧ (postAll n s).queues = s.queues ∧
    (postAll n s).rationed = s.rationed ∧ (postAll n s).turn = s.turn ∧ (postAll n s).claimants = s.claimants ∧
    (postAll n s).lastServed = s.lastServed ∧ (postAll n s).members = s.members ∧ (postAll n s).params = s.params ∧
    (postAll n s).vote = s.vote ∧ (postAll n s).links = s.links := by
  unfold postAll
  exact ⟨(foldl_keeps State.pending _ _ _ (by simp)).trans (by simp),
    (foldl_keeps State.now _ _ _ (by simp)).trans (by simp),
    (foldl_keeps State.resetAsserted _ _ _ (by simp)).trans (by simp),
    (foldl_keeps State.pool _ _ _ (by simp)).trans (by simp),
    (foldl_keeps State.cells _ _ _ (by simp)).trans (by simp),
    (foldl_keeps State.freeList _ _ _ (by simp)).trans (by simp),
    (foldl_keeps State.accounts _ _ _ (by simp)).trans (by simp),
    (foldl_keeps State.messages _ _ _ (by simp)).trans (by simp),
    (foldl_keeps State.channels _ _ _ (by simp)).trans (by simp),
    (foldl_keeps State.subs _ _ _ (by simp)).trans (by simp),
    (foldl_keeps State.entries _ _ _ (by simp)).trans (by simp),
    (foldl_keeps State.queues _ _ _ (by simp)).trans (by simp),
    (foldl_keeps State.rationed _ _ _ (by simp)).trans (by simp),
    (foldl_keeps State.turn _ _ _ (by simp)).trans (by simp),
    (foldl_keeps State.claimants _ _ _ (by simp)).trans (by simp),
    (foldl_keeps State.lastServed _ _ _ (by simp)).trans (by simp),
    (foldl_keeps State.members _ _ _ (by simp)).trans (by simp),
    (foldl_keeps State.params _ _ _ (by simp)).trans (by simp),
    (foldl_keeps State.vote _ _ _ (by simp)).trans (by simp),
    (foldl_keeps State.links _ _ _ (by simp)).trans (by simp)⟩

@[simp] theorem postOthers_frame (h : HostId) (n : Notice) (s : State) :
    (postOthers h n s).pending = s.pending ∧ (postOthers h n s).now = s.now ∧
    (postOthers h n s).resetAsserted = s.resetAsserted ∧ (postOthers h n s).pool = s.pool ∧
    (postOthers h n s).cells = s.cells ∧ (postOthers h n s).freeList = s.freeList ∧
    (postOthers h n s).accounts = s.accounts ∧ (postOthers h n s).messages = s.messages ∧
    (postOthers h n s).channels = s.channels ∧ (postOthers h n s).subs = s.subs ∧
    (postOthers h n s).entries = s.entries ∧ (postOthers h n s).queues = s.queues ∧
    (postOthers h n s).rationed = s.rationed ∧ (postOthers h n s).turn = s.turn ∧
    (postOthers h n s).claimants = s.claimants ∧ (postOthers h n s).lastServed = s.lastServed ∧
    (postOthers h n s).members = s.members ∧ (postOthers h n s).params = s.params ∧
    (postOthers h n s).vote = s.vote ∧ (postOthers h n s).links = s.links := by
  unfold postOthers
  exact ⟨(foldl_keeps State.pending _ _ _ (by simp)).trans (by simp),
    (foldl_keeps State.now _ _ _ (by simp)).trans (by simp),
    (foldl_keeps State.resetAsserted _ _ _ (by simp)).trans (by simp),
    (foldl_keeps State.pool _ _ _ (by simp)).trans (by simp),
    (foldl_keeps State.cells _ _ _ (by simp)).trans (by simp),
    (foldl_keeps State.freeList _ _ _ (by simp)).trans (by simp),
    (foldl_keeps State.accounts _ _ _ (by simp)).trans (by simp),
    (foldl_keeps State.messages _ _ _ (by simp)).trans (by simp),
    (foldl_keeps State.channels _ _ _ (by simp)).trans (by simp),
    (foldl_keeps State.subs _ _ _ (by simp)).trans (by simp),
    (foldl_keeps State.entries _ _ _ (by simp)).trans (by simp),
    (foldl_keeps State.queues _ _ _ (by simp)).trans (by simp),
    (foldl_keeps State.rationed _ _ _ (by simp)).trans (by simp),
    (foldl_keeps State.turn _ _ _ (by simp)).trans (by simp),
    (foldl_keeps State.claimants _ _ _ (by simp)).trans (by simp),
    (foldl_keeps State.lastServed _ _ _ (by simp)).trans (by simp),
    (foldl_keeps State.members _ _ _ (by simp)).trans (by simp),
    (foldl_keeps State.params _ _ _ (by simp)).trans (by simp),
    (foldl_keeps State.vote _ _ _ (by simp)).trans (by simp),
    (foldl_keeps State.links _ _ _ (by simp)).trans (by simp)⟩

@[simp] theorem clearNotices_frame (h : HostId) (s : State) :
    (clearNotices h s).pending = s.pending ∧ (clearNotices h s).now = s.now ∧
    (clearNotices h s).resetAsserted = s.resetAsserted ∧ (clearNotices h s).pool = s.pool ∧
    (clearNotices h s).cells = s.cells ∧ (clearNotices h s).freeList = s.freeList ∧
    (clearNotices h s).accounts = s.accounts ∧ (clearNotices h s).messages = s.messages ∧
    (clearNotices h s).channels = s.channels ∧ (clearNotices h s).subs = s.subs ∧
    (clearNotices h s).entries = s.entries ∧ (clearNotices h s).queues = s.queues ∧
    (clearNotices h s).rationed = s.rationed ∧ (clearNotices h s).turn = s.turn ∧
    (clearNotices h s).claimants = s.claimants ∧ (clearNotices h s).lastServed = s.lastServed ∧
    (clearNotices h s).members = s.members ∧ (clearNotices h s).params = s.params ∧
    (clearNotices h s).vote = s.vote ∧ (clearNotices h s).links = s.links := by
  simp [clearNotices]

@[simp] theorem clearLatches_frame (h : HostId) (s : State) :
    (clearLatches h s).pending = s.pending ∧ (clearLatches h s).now = s.now ∧
    (clearLatches h s).resetAsserted = s.resetAsserted ∧ (clearLatches h s).pool = s.pool ∧
    (clearLatches h s).cells = s.cells ∧ (clearLatches h s).freeList = s.freeList ∧
    (clearLatches h s).accounts = s.accounts ∧ (clearLatches h s).messages = s.messages ∧
    (clearLatches h s).channels = s.channels ∧ (clearLatches h s).subs = s.subs ∧
    (clearLatches h s).entries = s.entries ∧ (clearLatches h s).queues = s.queues ∧
    (clearLatches h s).rationed = s.rationed ∧ (clearLatches h s).turn = s.turn ∧
    (clearLatches h s).claimants = s.claimants ∧ (clearLatches h s).lastServed = s.lastServed ∧
    (clearLatches h s).members = s.members ∧ (clearLatches h s).params = s.params ∧
    (clearLatches h s).vote = s.vote ∧ (clearLatches h s).links = s.links := by
  simp [clearLatches]

@[simp] theorem countSeal_frame (h : HostId) (n : Nat) (s : State) :
    (countSeal h n s).pending = s.pending ∧ (countSeal h n s).now = s.now ∧
    (countSeal h n s).resetAsserted = s.resetAsserted ∧ (countSeal h n s).pool = s.pool ∧
    (countSeal h n s).cells = s.cells ∧ (countSeal h n s).freeList = s.freeList ∧
    (countSeal h n s).accounts = s.accounts ∧ (countSeal h n s).messages = s.messages ∧
    (countSeal h n s).channels = s.channels ∧ (countSeal h n s).subs = s.subs ∧
    (countSeal h n s).entries = s.entries ∧ (countSeal h n s).queues = s.queues ∧
    (countSeal h n s).rationed = s.rationed ∧ (countSeal h n s).turn = s.turn ∧
    (countSeal h n s).claimants = s.claimants ∧ (countSeal h n s).lastServed = s.lastServed ∧
    (countSeal h n s).members = s.members ∧ (countSeal h n s).params = s.params ∧ (countSeal h n s).vote = s.vote ∧
    (countSeal h n s).links = s.links := by
  simp [countSeal]

@[simp] theorem countAbort_frame (h : HostId) (s : State) :
    (countAbort h s).pending = s.pending ∧ (countAbort h s).now = s.now ∧
    (countAbort h s).resetAsserted = s.resetAsserted ∧ (countAbort h s).pool = s.pool ∧
    (countAbort h s).cells = s.cells ∧ (countAbort h s).freeList = s.freeList ∧
    (countAbort h s).accounts = s.accounts ∧ (countAbort h s).messages = s.messages ∧
    (countAbort h s).channels = s.channels ∧ (countAbort h s).subs = s.subs ∧ (countAbort h s).entries = s.entries ∧
    (countAbort h s).queues = s.queues ∧ (countAbort h s).rationed = s.rationed ∧ (countAbort h s).turn = s.turn ∧
    (countAbort h s).claimants = s.claimants ∧ (countAbort h s).lastServed = s.lastServed ∧
    (countAbort h s).members = s.members ∧ (countAbort h s).params = s.params ∧ (countAbort h s).vote = s.vote ∧
    (countAbort h s).links = s.links := by
  simp [countAbort]

@[simp] theorem countTaken_frame (h : HostId) (s : State) :
    (countTaken h s).pending = s.pending ∧ (countTaken h s).now = s.now ∧
    (countTaken h s).resetAsserted = s.resetAsserted ∧ (countTaken h s).pool = s.pool ∧
    (countTaken h s).cells = s.cells ∧ (countTaken h s).freeList = s.freeList ∧
    (countTaken h s).accounts = s.accounts ∧ (countTaken h s).messages = s.messages ∧
    (countTaken h s).channels = s.channels ∧ (countTaken h s).subs = s.subs ∧ (countTaken h s).entries = s.entries ∧
    (countTaken h s).queues = s.queues ∧ (countTaken h s).rationed = s.rationed ∧ (countTaken h s).turn = s.turn ∧
    (countTaken h s).claimants = s.claimants ∧ (countTaken h s).lastServed = s.lastServed ∧
    (countTaken h s).members = s.members ∧ (countTaken h s).params = s.params ∧ (countTaken h s).vote = s.vote ∧
    (countTaken h s).links = s.links := by
  simp [countTaken]

@[simp] theorem reportDrop_frame (h : HostId) (n : Notice) (s : State) :
    (reportDrop h n s).pending = s.pending ∧ (reportDrop h n s).now = s.now ∧
    (reportDrop h n s).resetAsserted = s.resetAsserted ∧ (reportDrop h n s).pool = s.pool ∧
    (reportDrop h n s).cells = s.cells ∧ (reportDrop h n s).freeList = s.freeList ∧
    (reportDrop h n s).accounts = s.accounts ∧ (reportDrop h n s).messages = s.messages ∧
    (reportDrop h n s).channels = s.channels ∧ (reportDrop h n s).subs = s.subs ∧
    (reportDrop h n s).entries = s.entries ∧ (reportDrop h n s).queues = s.queues ∧
    (reportDrop h n s).rationed = s.rationed ∧ (reportDrop h n s).turn = s.turn ∧
    (reportDrop h n s).claimants = s.claimants ∧ (reportDrop h n s).lastServed = s.lastServed ∧
    (reportDrop h n s).members = s.members ∧ (reportDrop h n s).params = s.params ∧
    (reportDrop h n s).vote = s.vote ∧ (reportDrop h n s).links = s.links := by
  simp [reportDrop]

@[simp] theorem linkFault_frame (h : HostId) (f : LinkFault) (b : Byte) (s : State) :
    (linkFault h f b s).pending = s.pending ∧ (linkFault h f b s).now = s.now ∧
    (linkFault h f b s).resetAsserted = s.resetAsserted ∧ (linkFault h f b s).pool = s.pool ∧
    (linkFault h f b s).cells = s.cells ∧ (linkFault h f b s).freeList = s.freeList ∧
    (linkFault h f b s).accounts = s.accounts ∧ (linkFault h f b s).messages = s.messages ∧
    (linkFault h f b s).channels = s.channels ∧ (linkFault h f b s).subs = s.subs ∧
    (linkFault h f b s).entries = s.entries ∧ (linkFault h f b s).queues = s.queues ∧
    (linkFault h f b s).rationed = s.rationed ∧ (linkFault h f b s).turn = s.turn ∧
    (linkFault h f b s).claimants = s.claimants ∧ (linkFault h f b s).lastServed = s.lastServed ∧
    (linkFault h f b s).members = s.members ∧ (linkFault h f b s).params = s.params ∧
    (linkFault h f b s).vote = s.vote := by
  simp [linkFault]

@[simp] theorem latchTurns_frame (hs : HostSet) (s : State) :
    (latchTurns hs s).pending = s.pending ∧ (latchTurns hs s).now = s.now ∧
    (latchTurns hs s).resetAsserted = s.resetAsserted ∧ (latchTurns hs s).pool = s.pool ∧
    (latchTurns hs s).cells = s.cells ∧ (latchTurns hs s).freeList = s.freeList ∧
    (latchTurns hs s).accounts = s.accounts ∧ (latchTurns hs s).messages = s.messages ∧
    (latchTurns hs s).channels = s.channels ∧ (latchTurns hs s).subs = s.subs ∧
    (latchTurns hs s).entries = s.entries ∧ (latchTurns hs s).queues = s.queues ∧
    (latchTurns hs s).rationed = s.rationed ∧ (latchTurns hs s).turn = s.turn ∧
    (latchTurns hs s).claimants = s.claimants ∧ (latchTurns hs s).lastServed = s.lastServed ∧
    (latchTurns hs s).members = s.members ∧ (latchTurns hs s).params = s.params ∧ (latchTurns hs s).vote = s.vote ∧
    (latchTurns hs s).links = s.links := by
  unfold latchTurns
  exact ⟨(foldl_keeps State.pending _ _ _ (by simp)).trans (by simp),
    (foldl_keeps State.now _ _ _ (by simp)).trans (by simp),
    (foldl_keeps State.resetAsserted _ _ _ (by simp)).trans (by simp),
    (foldl_keeps State.pool _ _ _ (by simp)).trans (by simp),
    (foldl_keeps State.cells _ _ _ (by simp)).trans (by simp),
    (foldl_keeps State.freeList _ _ _ (by simp)).trans (by simp),
    (foldl_keeps State.accounts _ _ _ (by simp)).trans (by simp),
    (foldl_keeps State.messages _ _ _ (by simp)).trans (by simp),
    (foldl_keeps State.channels _ _ _ (by simp)).trans (by simp),
    (foldl_keeps State.subs _ _ _ (by simp)).trans (by simp),
    (foldl_keeps State.entries _ _ _ (by simp)).trans (by simp),
    (foldl_keeps State.queues _ _ _ (by simp)).trans (by simp),
    (foldl_keeps State.rationed _ _ _ (by simp)).trans (by simp),
    (foldl_keeps State.turn _ _ _ (by simp)).trans (by simp),
    (foldl_keeps State.claimants _ _ _ (by simp)).trans (by simp),
    (foldl_keeps State.lastServed _ _ _ (by simp)).trans (by simp),
    (foldl_keeps State.members _ _ _ (by simp)).trans (by simp),
    (foldl_keeps State.params _ _ _ (by simp)).trans (by simp),
    (foldl_keeps State.vote _ _ _ (by simp)).trans (by simp),
    (foldl_keeps State.links _ _ _ (by simp)).trans (by simp)⟩

@[simp] theorem endRationing_frame (s : State) :
    (endRationing s).pending = s.pending ∧ (endRationing s).now = s.now ∧
    (endRationing s).resetAsserted = s.resetAsserted ∧ (endRationing s).pool = s.pool ∧
    (endRationing s).cells = s.cells ∧ (endRationing s).freeList = s.freeList ∧
    (endRationing s).accounts = s.accounts ∧ (endRationing s).messages = s.messages ∧
    (endRationing s).channels = s.channels ∧ (endRationing s).subs = s.subs ∧ (endRationing s).entries = s.entries ∧
    (endRationing s).queues = s.queues ∧ (endRationing s).lastServed = s.lastServed ∧
    (endRationing s).members = s.members ∧ (endRationing s).params = s.params ∧ (endRationing s).vote = s.vote ∧
    (endRationing s).links = s.links := by
  unfold endRationing
  cases s.turn <;> simp

@[simp] theorem reevaluate_frame (s : State) :
    (reevaluate s).pending = s.pending ∧ (reevaluate s).now = s.now ∧
    (reevaluate s).resetAsserted = s.resetAsserted ∧ (reevaluate s).pool = s.pool ∧ (reevaluate s).cells = s.cells ∧
    (reevaluate s).freeList = s.freeList ∧ (reevaluate s).accounts = s.accounts ∧
    (reevaluate s).messages = s.messages ∧ (reevaluate s).channels = s.channels ∧ (reevaluate s).subs = s.subs ∧
    (reevaluate s).entries = s.entries ∧ (reevaluate s).queues = s.queues ∧
    (reevaluate s).lastServed = s.lastServed ∧ (reevaluate s).members = s.members ∧
    (reevaluate s).params = s.params ∧ (reevaluate s).vote = s.vote ∧ (reevaluate s).links = s.links := by
  unfold reevaluate
  repeat' split
  all_goals simp

@[simp] theorem grantTurn_frame (h : HostId) (s : State) :
    (grantTurn h s).pending = s.pending ∧ (grantTurn h s).now = s.now ∧
    (grantTurn h s).resetAsserted = s.resetAsserted ∧ (grantTurn h s).pool = s.pool ∧
    (grantTurn h s).cells = s.cells ∧ (grantTurn h s).freeList = s.freeList ∧ (grantTurn h s).accounts = s.accounts ∧
    (grantTurn h s).messages = s.messages ∧ (grantTurn h s).channels = s.channels ∧ (grantTurn h s).subs = s.subs ∧
    (grantTurn h s).entries = s.entries ∧ (grantTurn h s).queues = s.queues ∧ (grantTurn h s).rationed = s.rationed ∧
    (grantTurn h s).lastServed = s.lastServed ∧ (grantTurn h s).members = s.members ∧
    (grantTurn h s).params = s.params ∧ (grantTurn h s).vote = s.vote ∧ (grantTurn h s).links = s.links := by
  simp [grantTurn]

@[simp] theorem endTurn_frame (s : State) :
    (endTurn s).pending = s.pending ∧ (endTurn s).now = s.now ∧ (endTurn s).resetAsserted = s.resetAsserted ∧
    (endTurn s).pool = s.pool ∧ (endTurn s).cells = s.cells ∧ (endTurn s).freeList = s.freeList ∧
    (endTurn s).accounts = s.accounts ∧ (endTurn s).messages = s.messages ∧ (endTurn s).channels = s.channels ∧
    (endTurn s).subs = s.subs ∧ (endTurn s).entries = s.entries ∧ (endTurn s).queues = s.queues ∧
    (endTurn s).rationed = s.rationed ∧ (endTurn s).lastServed = s.lastServed ∧ (endTurn s).members = s.members ∧
    (endTurn s).params = s.params ∧ (endTurn s).vote = s.vote ∧ (endTurn s).links = s.links := by
  unfold endTurn
  repeat' split
  all_goals simp

@[simp] theorem endTurnOf_frame (h : HostId) (s : State) :
    (endTurnOf h s).pending = s.pending ∧ (endTurnOf h s).now = s.now ∧
    (endTurnOf h s).resetAsserted = s.resetAsserted ∧ (endTurnOf h s).pool = s.pool ∧
    (endTurnOf h s).cells = s.cells ∧ (endTurnOf h s).freeList = s.freeList ∧ (endTurnOf h s).accounts = s.accounts ∧
    (endTurnOf h s).messages = s.messages ∧ (endTurnOf h s).channels = s.channels ∧ (endTurnOf h s).subs = s.subs ∧
    (endTurnOf h s).entries = s.entries ∧ (endTurnOf h s).queues = s.queues ∧ (endTurnOf h s).rationed = s.rationed ∧
    (endTurnOf h s).lastServed = s.lastServed ∧ (endTurnOf h s).members = s.members ∧
    (endTurnOf h s).params = s.params ∧ (endTurnOf h s).vote = s.vote ∧ (endTurnOf h s).links = s.links := by
  unfold endTurnOf
  repeat' split
  all_goals simp

@[simp] theorem admit_frame (h : HostId) (s : State) :
    (arbitrate h s).1.pending = s.pending ∧ (arbitrate h s).1.now = s.now ∧ (arbitrate h s).1.resetAsserted = s.resetAsserted ∧
    (arbitrate h s).1.pool = s.pool ∧ (arbitrate h s).1.cells = s.cells ∧ (arbitrate h s).1.freeList = s.freeList ∧
    (arbitrate h s).1.accounts = s.accounts ∧ (arbitrate h s).1.messages = s.messages ∧ (arbitrate h s).1.channels = s.channels ∧
    (arbitrate h s).1.subs = s.subs ∧ (arbitrate h s).1.entries = s.entries ∧ (arbitrate h s).1.queues = s.queues ∧
    (arbitrate h s).1.rationed = s.rationed ∧ (arbitrate h s).1.members = s.members ∧ (arbitrate h s).1.params = s.params ∧
    (arbitrate h s).1.vote = s.vote ∧ (arbitrate h s).1.desks = s.desks ∧ (arbitrate h s).1.links = s.links := by
  unfold arbitrate
  repeat' split
  all_goals simp

@[simp] theorem withdraw_frame (h : HostId) (s : State) :
    (withdraw h s).pending = s.pending ∧ (withdraw h s).now = s.now ∧
    (withdraw h s).resetAsserted = s.resetAsserted ∧ (withdraw h s).pool = s.pool ∧ (withdraw h s).cells = s.cells ∧
    (withdraw h s).freeList = s.freeList ∧ (withdraw h s).accounts = s.accounts ∧
    (withdraw h s).messages = s.messages ∧ (withdraw h s).channels = s.channels ∧ (withdraw h s).subs = s.subs ∧
    (withdraw h s).entries = s.entries ∧ (withdraw h s).queues = s.queues ∧ (withdraw h s).rationed = s.rationed ∧
    (withdraw h s).lastServed = s.lastServed ∧ (withdraw h s).members = s.members ∧
    (withdraw h s).params = s.params ∧ (withdraw h s).vote = s.vote ∧ (withdraw h s).links = s.links := by
  unfold withdraw
  dsimp only
  split <;> simp

@[simp] theorem judgeMark_frame (h : HostId) (s : State) :
    (judgeMark h s).pending = s.pending ∧ (judgeMark h s).now = s.now ∧
    (judgeMark h s).resetAsserted = s.resetAsserted ∧ (judgeMark h s).pool = s.pool ∧
    (judgeMark h s).cells = s.cells ∧ (judgeMark h s).freeList = s.freeList ∧ (judgeMark h s).messages = s.messages ∧
    (judgeMark h s).channels = s.channels ∧ (judgeMark h s).subs = s.subs ∧ (judgeMark h s).entries = s.entries ∧
    (judgeMark h s).queues = s.queues ∧ (judgeMark h s).rationed = s.rationed ∧ (judgeMark h s).turn = s.turn ∧
    (judgeMark h s).claimants = s.claimants ∧ (judgeMark h s).lastServed = s.lastServed ∧
    (judgeMark h s).members = s.members ∧ (judgeMark h s).params = s.params ∧ (judgeMark h s).vote = s.vote ∧
    (judgeMark h s).links = s.links := by
  unfold judgeMark
  repeat' split
  all_goals simp

@[simp] theorem setCharge_frame (h : HostId) (n : Nat) (s : State) :
    (setCharge h n s).pending = s.pending ∧ (setCharge h n s).now = s.now ∧
    (setCharge h n s).resetAsserted = s.resetAsserted ∧ (setCharge h n s).pool = s.pool ∧
    (setCharge h n s).cells = s.cells ∧ (setCharge h n s).freeList = s.freeList ∧
    (setCharge h n s).messages = s.messages ∧ (setCharge h n s).channels = s.channels ∧
    (setCharge h n s).subs = s.subs ∧ (setCharge h n s).entries = s.entries ∧ (setCharge h n s).queues = s.queues ∧
    (setCharge h n s).rationed = s.rationed ∧ (setCharge h n s).turn = s.turn ∧
    (setCharge h n s).claimants = s.claimants ∧ (setCharge h n s).lastServed = s.lastServed ∧
    (setCharge h n s).members = s.members ∧ (setCharge h n s).params = s.params ∧ (setCharge h n s).vote = s.vote ∧
    (setCharge h n s).links = s.links := by
  unfold setCharge
  dsimp only
  split <;> simp

@[simp] theorem linkRun_frame (run : List CellId) (s : State) :
    (linkRun run s).pending = s.pending ∧ (linkRun run s).now = s.now ∧
    (linkRun run s).resetAsserted = s.resetAsserted ∧ (linkRun run s).pool = s.pool ∧
    (linkRun run s).freeList = s.freeList ∧ (linkRun run s).accounts = s.accounts ∧
    (linkRun run s).messages = s.messages ∧ (linkRun run s).channels = s.channels ∧ (linkRun run s).subs = s.subs ∧
    (linkRun run s).entries = s.entries ∧ (linkRun run s).queues = s.queues ∧ (linkRun run s).rationed = s.rationed ∧
    (linkRun run s).turn = s.turn ∧ (linkRun run s).claimants = s.claimants ∧
    (linkRun run s).lastServed = s.lastServed ∧ (linkRun run s).members = s.members ∧
    (linkRun run s).params = s.params ∧ (linkRun run s).vote = s.vote ∧ (linkRun run s).desks = s.desks ∧
    (linkRun run s).links = s.links := by
  induction run, s using linkRun.induct with
  | case1 a b rest s ih => simpa [linkRun] using ih
  | case2 x s hx => rw [linkRun]; simp; exact hx

@[simp] theorem attachRun_frame (m : MsgId) (run : List CellId) (s : State) :
    (attachRun m run s).pending = s.pending ∧ (attachRun m run s).now = s.now ∧
    (attachRun m run s).resetAsserted = s.resetAsserted ∧ (attachRun m run s).pool = s.pool ∧
    (attachRun m run s).freeList = s.freeList ∧ (attachRun m run s).accounts = s.accounts ∧
    (attachRun m run s).channels = s.channels ∧ (attachRun m run s).subs = s.subs ∧
    (attachRun m run s).entries = s.entries ∧ (attachRun m run s).queues = s.queues ∧
    (attachRun m run s).rationed = s.rationed ∧ (attachRun m run s).turn = s.turn ∧
    (attachRun m run s).claimants = s.claimants ∧ (attachRun m run s).lastServed = s.lastServed ∧
    (attachRun m run s).members = s.members ∧ (attachRun m run s).params = s.params ∧
    (attachRun m run s).vote = s.vote ∧ (attachRun m run s).desks = s.desks ∧ (attachRun m run s).links = s.links := by
  unfold attachRun
  cases run with
  | nil => simp
  | cons c rest => cases (s.messages.read m).tail <;> simp

@[simp] theorem chargeCells_frame (m : MsgId) (k : Nat) (s : State) :
    (chargeCells m k s).pending = s.pending ∧ (chargeCells m k s).now = s.now ∧
    (chargeCells m k s).resetAsserted = s.resetAsserted ∧ (chargeCells m k s).pool = s.pool ∧
    (chargeCells m k s).channels = s.channels ∧ (chargeCells m k s).subs = s.subs ∧
    (chargeCells m k s).entries = s.entries ∧ (chargeCells m k s).queues = s.queues ∧
    (chargeCells m k s).lastServed = s.lastServed ∧ (chargeCells m k s).members = s.members ∧
    (chargeCells m k s).params = s.params ∧ (chargeCells m k s).vote = s.vote ∧ (chargeCells m k s).links = s.links := by
  unfold chargeCells
  split
  · simp
  · cases h : takeCells k s with
    | none => simp
    | some p =>
      obtain ⟨run, t⟩ := p
      unfold takeCells at h
      split at h
      · cases h; simp
      · cases h

@[simp] theorem appendBytes_frame (m : MsgId) (bs : List Byte) (s : State) :
    (appendBytes m bs s).pending = s.pending ∧ (appendBytes m bs s).now = s.now ∧
    (appendBytes m bs s).resetAsserted = s.resetAsserted ∧ (appendBytes m bs s).channels = s.channels ∧
    (appendBytes m bs s).subs = s.subs ∧ (appendBytes m bs s).entries = s.entries ∧
    (appendBytes m bs s).queues = s.queues ∧ (appendBytes m bs s).lastServed = s.lastServed ∧
    (appendBytes m bs s).members = s.members ∧ (appendBytes m bs s).params = s.params ∧
    (appendBytes m bs s).vote = s.vote ∧ (appendBytes m bs s).links = s.links := by
  unfold appendBytes
  dsimp only
  split <;> simp

@[simp] theorem returnCells_frame (chain : List CellId) (s : State) :
    (returnCells chain s).pending = s.pending ∧ (returnCells chain s).now = s.now ∧
    (returnCells chain s).resetAsserted = s.resetAsserted ∧ (returnCells chain s).pool = s.pool ∧
    (returnCells chain s).accounts = s.accounts ∧ (returnCells chain s).messages = s.messages ∧
    (returnCells chain s).channels = s.channels ∧ (returnCells chain s).subs = s.subs ∧
    (returnCells chain s).entries = s.entries ∧ (returnCells chain s).queues = s.queues ∧
    (returnCells chain s).rationed = s.rationed ∧ (returnCells chain s).turn = s.turn ∧
    (returnCells chain s).claimants = s.claimants ∧ (returnCells chain s).lastServed = s.lastServed ∧
    (returnCells chain s).members = s.members ∧ (returnCells chain s).params = s.params ∧
    (returnCells chain s).vote = s.vote ∧ (returnCells chain s).desks = s.desks ∧
    (returnCells chain s).links = s.links := by
  unfold returnCells
  exact ⟨(foldl_keeps State.pending _ _ _ (by simp)).trans (by simp),
    (foldl_keeps State.now _ _ _ (by simp)).trans (by simp),
    (foldl_keeps State.resetAsserted _ _ _ (by simp)).trans (by simp),
    (foldl_keeps State.pool _ _ _ (by simp)).trans (by simp),
    (foldl_keeps State.accounts _ _ _ (by simp)).trans (by simp),
    (foldl_keeps State.messages _ _ _ (by simp)).trans (by simp),
    (foldl_keeps State.channels _ _ _ (by simp)).trans (by simp),
    (foldl_keeps State.subs _ _ _ (by simp)).trans (by simp),
    (foldl_keeps State.entries _ _ _ (by simp)).trans (by simp),
    (foldl_keeps State.queues _ _ _ (by simp)).trans (by simp),
    (foldl_keeps State.rationed _ _ _ (by simp)).trans (by simp),
    (foldl_keeps State.turn _ _ _ (by simp)).trans (by simp),
    (foldl_keeps State.claimants _ _ _ (by simp)).trans (by simp),
    (foldl_keeps State.lastServed _ _ _ (by simp)).trans (by simp),
    (foldl_keeps State.members _ _ _ (by simp)).trans (by simp),
    (foldl_keeps State.params _ _ _ (by simp)).trans (by simp),
    (foldl_keeps State.vote _ _ _ (by simp)).trans (by simp),
    (foldl_keeps State.desks _ _ _ (by simp)).trans (by simp),
    (foldl_keeps State.links _ _ _ (by simp)).trans (by simp)⟩

@[simp] theorem freeMessage_frame (m : MsgId) (s : State) :
    (freeMessage m s).pending = s.pending ∧ (freeMessage m s).now = s.now ∧
    (freeMessage m s).resetAsserted = s.resetAsserted ∧ (freeMessage m s).pool = s.pool ∧
    (freeMessage m s).subs = s.subs ∧ (freeMessage m s).entries = s.entries ∧ (freeMessage m s).queues = s.queues ∧
    (freeMessage m s).lastServed = s.lastServed ∧ (freeMessage m s).members = s.members ∧
    (freeMessage m s).params = s.params ∧ (freeMessage m s).vote = s.vote ∧ (freeMessage m s).links = s.links := by
  unfold freeMessage
  dsimp only
  split <;> simp

@[simp] theorem release_frame (m : MsgId) (s : State) :
    (release m s).pending = s.pending ∧ (release m s).now = s.now ∧ (release m s).resetAsserted = s.resetAsserted ∧
    (release m s).pool = s.pool ∧ (release m s).subs = s.subs ∧ (release m s).entries = s.entries ∧
    (release m s).queues = s.queues ∧ (release m s).lastServed = s.lastServed ∧ (release m s).members = s.members ∧
    (release m s).params = s.params ∧ (release m s).vote = s.vote ∧ (release m s).links = s.links := by
  unfold release
  dsimp only
  split <;> simp

@[simp] theorem abortMessage_frame (m : MsgId) (s : State) :
    (abortMessage m s).pending = s.pending ∧ (abortMessage m s).now = s.now ∧
    (abortMessage m s).resetAsserted = s.resetAsserted ∧ (abortMessage m s).pool = s.pool ∧
    (abortMessage m s).subs = s.subs ∧ (abortMessage m s).entries = s.entries ∧
    (abortMessage m s).queues = s.queues ∧ (abortMessage m s).lastServed = s.lastServed ∧
    (abortMessage m s).members = s.members ∧ (abortMessage m s).params = s.params ∧
    (abortMessage m s).vote = s.vote ∧ (abortMessage m s).links = s.links := by
  unfold abortMessage
  dsimp only
  split <;> simp

@[simp] theorem removeEntry_frame (h : HostId) (e : EntryId) (s : State) :
    (removeEntry h e s).pending = s.pending ∧ (removeEntry h e s).now = s.now ∧
    (removeEntry h e s).resetAsserted = s.resetAsserted ∧ (removeEntry h e s).pool = s.pool ∧
    (removeEntry h e s).lastServed = s.lastServed ∧ (removeEntry h e s).members = s.members ∧
    (removeEntry h e s).params = s.params ∧ (removeEntry h e s).vote = s.vote ∧ (removeEntry h e s).links = s.links := by
  unfold removeEntry
  dsimp only
  split <;> simp

@[simp] theorem removeEntries_frame (h : HostId) (es : List EntryId) (s : State) :
    (removeEntries h es s).pending = s.pending ∧ (removeEntries h es s).now = s.now ∧
    (removeEntries h es s).resetAsserted = s.resetAsserted ∧ (removeEntries h es s).pool = s.pool ∧
    (removeEntries h es s).lastServed = s.lastServed ∧ (removeEntries h es s).members = s.members ∧
    (removeEntries h es s).params = s.params ∧ (removeEntries h es s).vote = s.vote ∧
    (removeEntries h es s).links = s.links := by
  unfold removeEntries
  exact ⟨(foldl_keeps State.pending _ _ _ (by simp)).trans (by simp),
    (foldl_keeps State.now _ _ _ (by simp)).trans (by simp),
    (foldl_keeps State.resetAsserted _ _ _ (by simp)).trans (by simp),
    (foldl_keeps State.pool _ _ _ (by simp)).trans (by simp),
    (foldl_keeps State.lastServed _ _ _ (by simp)).trans (by simp),
    (foldl_keeps State.members _ _ _ (by simp)).trans (by simp),
    (foldl_keeps State.params _ _ _ (by simp)).trans (by simp),
    (foldl_keeps State.vote _ _ _ (by simp)).trans (by simp),
    (foldl_keeps State.links _ _ _ (by simp)).trans (by simp)⟩

@[simp] theorem freeSubscription_frame (i : SubId) (s : State) :
    (freeSubscription i s).pending = s.pending ∧ (freeSubscription i s).now = s.now ∧
    (freeSubscription i s).resetAsserted = s.resetAsserted ∧ (freeSubscription i s).pool = s.pool ∧
    (freeSubscription i s).cells = s.cells ∧ (freeSubscription i s).freeList = s.freeList ∧
    (freeSubscription i s).accounts = s.accounts ∧ (freeSubscription i s).messages = s.messages ∧
    (freeSubscription i s).queues = s.queues ∧ (freeSubscription i s).rationed = s.rationed ∧
    (freeSubscription i s).turn = s.turn ∧ (freeSubscription i s).claimants = s.claimants ∧
    (freeSubscription i s).lastServed = s.lastServed ∧ (freeSubscription i s).members = s.members ∧
    (freeSubscription i s).params = s.params ∧ (freeSubscription i s).vote = s.vote ∧
    (freeSubscription i s).desks = s.desks ∧ (freeSubscription i s).links = s.links := by
  simp [freeSubscription]

@[simp] theorem appendEntry_frame (h : HostId) (m : MsgId) (i : SubId) (e : EntryId) (s : State) :
    (appendEntry h m i e s).pending = s.pending ∧ (appendEntry h m i e s).now = s.now ∧
    (appendEntry h m i e s).resetAsserted = s.resetAsserted ∧ (appendEntry h m i e s).pool = s.pool ∧
    (appendEntry h m i e s).cells = s.cells ∧ (appendEntry h m i e s).freeList = s.freeList ∧
    (appendEntry h m i e s).accounts = s.accounts ∧ (appendEntry h m i e s).channels = s.channels ∧
    (appendEntry h m i e s).rationed = s.rationed ∧ (appendEntry h m i e s).turn = s.turn ∧
    (appendEntry h m i e s).claimants = s.claimants ∧ (appendEntry h m i e s).lastServed = s.lastServed ∧
    (appendEntry h m i e s).members = s.members ∧ (appendEntry h m i e s).params = s.params ∧
    (appendEntry h m i e s).vote = s.vote ∧ (appendEntry h m i e s).links = s.links := by
  simp [appendEntry]

@[simp] theorem displace_frame (h : HostId) (m : MsgId) (i : SubId) (e : EntryId) (s : State) :
    (displace h m i e s).pending = s.pending ∧ (displace h m i e s).now = s.now ∧
    (displace h m i e s).resetAsserted = s.resetAsserted ∧ (displace h m i e s).pool = s.pool ∧
    (displace h m i e s).lastServed = s.lastServed ∧ (displace h m i e s).members = s.members ∧
    (displace h m i e s).params = s.params ∧ (displace h m i e s).vote = s.vote ∧
    (displace h m i e s).links = s.links := by
  simp [displace]

@[simp] theorem deliver_frame (m : MsgId) (h : HostId) (i : SubId) (s : State) :
    (deliver m h i s).pending = s.pending ∧ (deliver m h i s).now = s.now ∧
    (deliver m h i s).resetAsserted = s.resetAsserted ∧ (deliver m h i s).pool = s.pool ∧
    (deliver m h i s).lastServed = s.lastServed ∧ (deliver m h i s).members = s.members ∧
    (deliver m h i s).params = s.params ∧ (deliver m h i s).vote = s.vote ∧ (deliver m h i s).links = s.links := by
  unfold deliver
  dsimp only
  repeat' split
  all_goals simp

@[simp] theorem createDeliveries_frame (m : MsgId) (s : State) :
    (createDeliveries m s).pending = s.pending ∧ (createDeliveries m s).now = s.now ∧
    (createDeliveries m s).resetAsserted = s.resetAsserted ∧ (createDeliveries m s).pool = s.pool ∧
    (createDeliveries m s).lastServed = s.lastServed ∧ (createDeliveries m s).members = s.members ∧
    (createDeliveries m s).params = s.params ∧ (createDeliveries m s).vote = s.vote ∧
    (createDeliveries m s).links = s.links := by
  unfold createDeliveries
  exact ⟨(foldl_keeps State.pending _ _ _ (by simp)).trans (by simp),
    (foldl_keeps State.now _ _ _ (by simp)).trans (by simp),
    (foldl_keeps State.resetAsserted _ _ _ (by simp)).trans (by simp),
    (foldl_keeps State.pool _ _ _ (by simp)).trans (by simp),
    (foldl_keeps State.lastServed _ _ _ (by simp)).trans (by simp),
    (foldl_keeps State.members _ _ _ (by simp)).trans (by simp),
    (foldl_keeps State.params _ _ _ (by simp)).trans (by simp),
    (foldl_keeps State.vote _ _ _ (by simp)).trans (by simp),
    (foldl_keeps State.links _ _ _ (by simp)).trans (by simp)⟩

@[simp] theorem beginTransaction_frame (h : HostId) (s : State) :
    (beginTransaction h s).pending = s.pending ∧ (beginTransaction h s).now = s.now ∧
    (beginTransaction h s).resetAsserted = s.resetAsserted ∧ (beginTransaction h s).pool = s.pool ∧
    (beginTransaction h s).cells = s.cells ∧ (beginTransaction h s).freeList = s.freeList ∧
    (beginTransaction h s).accounts = s.accounts ∧ (beginTransaction h s).messages = s.messages ∧
    (beginTransaction h s).channels = s.channels ∧ (beginTransaction h s).subs = s.subs ∧
    (beginTransaction h s).entries = s.entries ∧ (beginTransaction h s).queues = s.queues ∧
    (beginTransaction h s).rationed = s.rationed ∧ (beginTransaction h s).turn = s.turn ∧
    (beginTransaction h s).claimants = s.claimants ∧ (beginTransaction h s).lastServed = s.lastServed ∧
    (beginTransaction h s).members = s.members ∧ (beginTransaction h s).params = s.params ∧
    (beginTransaction h s).vote = s.vote ∧ (beginTransaction h s).desks = s.desks := by
  simp [beginTransaction]

@[simp] theorem captureByte_frame (h : HostId) (b : Byte) (s : State) :
    (captureByte h b s).pending = s.pending ∧ (captureByte h b s).now = s.now ∧
    (captureByte h b s).resetAsserted = s.resetAsserted ∧ (captureByte h b s).pool = s.pool ∧
    (captureByte h b s).cells = s.cells ∧ (captureByte h b s).freeList = s.freeList ∧
    (captureByte h b s).accounts = s.accounts ∧ (captureByte h b s).messages = s.messages ∧
    (captureByte h b s).channels = s.channels ∧ (captureByte h b s).subs = s.subs ∧
    (captureByte h b s).entries = s.entries ∧ (captureByte h b s).queues = s.queues ∧
    (captureByte h b s).rationed = s.rationed ∧ (captureByte h b s).turn = s.turn ∧
    (captureByte h b s).claimants = s.claimants ∧ (captureByte h b s).lastServed = s.lastServed ∧
    (captureByte h b s).members = s.members ∧ (captureByte h b s).params = s.params ∧
    (captureByte h b s).vote = s.vote ∧ (captureByte h b s).desks = s.desks := by
  simp [captureByte]

@[simp] theorem deselect_frame (h : HostId) (s : State) :
    (deselect h s).pending = s.pending ∧ (deselect h s).now = s.now ∧
    (deselect h s).resetAsserted = s.resetAsserted ∧ (deselect h s).pool = s.pool ∧ (deselect h s).cells = s.cells ∧
    (deselect h s).freeList = s.freeList ∧ (deselect h s).accounts = s.accounts ∧
    (deselect h s).messages = s.messages ∧ (deselect h s).channels = s.channels ∧ (deselect h s).subs = s.subs ∧
    (deselect h s).entries = s.entries ∧ (deselect h s).queues = s.queues ∧ (deselect h s).rationed = s.rationed ∧
    (deselect h s).turn = s.turn ∧ (deselect h s).claimants = s.claimants ∧
    (deselect h s).lastServed = s.lastServed ∧ (deselect h s).members = s.members ∧
    (deselect h s).params = s.params ∧ (deselect h s).vote = s.vote ∧ (deselect h s).desks = s.desks := by
  simp [deselect]

@[simp] theorem closeTransaction_frame (h : HostId) (s : State) :
    (closeTransaction h s).pending = s.pending ∧ (closeTransaction h s).now = s.now ∧
    (closeTransaction h s).resetAsserted = s.resetAsserted ∧ (closeTransaction h s).pool = s.pool ∧
    (closeTransaction h s).cells = s.cells ∧ (closeTransaction h s).freeList = s.freeList ∧
    (closeTransaction h s).accounts = s.accounts ∧ (closeTransaction h s).messages = s.messages ∧
    (closeTransaction h s).channels = s.channels ∧ (closeTransaction h s).subs = s.subs ∧
    (closeTransaction h s).entries = s.entries ∧ (closeTransaction h s).queues = s.queues ∧
    (closeTransaction h s).rationed = s.rationed ∧ (closeTransaction h s).turn = s.turn ∧
    (closeTransaction h s).claimants = s.claimants ∧ (closeTransaction h s).lastServed = s.lastServed ∧
    (closeTransaction h s).members = s.members ∧ (closeTransaction h s).params = s.params ∧
    (closeTransaction h s).vote = s.vote ∧ (closeTransaction h s).desks = s.desks := by
  simp [closeTransaction]

@[simp] theorem setLast_frame (h : HostId) (r : Reply) (b : Byte) (s : State) :
    (setLast h r b s).pending = s.pending ∧ (setLast h r b s).now = s.now ∧
    (setLast h r b s).resetAsserted = s.resetAsserted ∧ (setLast h r b s).pool = s.pool ∧
    (setLast h r b s).cells = s.cells ∧ (setLast h r b s).freeList = s.freeList ∧
    (setLast h r b s).accounts = s.accounts ∧ (setLast h r b s).messages = s.messages ∧
    (setLast h r b s).channels = s.channels ∧ (setLast h r b s).subs = s.subs ∧
    (setLast h r b s).entries = s.entries ∧ (setLast h r b s).queues = s.queues ∧
    (setLast h r b s).rationed = s.rationed ∧ (setLast h r b s).turn = s.turn ∧
    (setLast h r b s).claimants = s.claimants ∧ (setLast h r b s).lastServed = s.lastServed ∧
    (setLast h r b s).members = s.members ∧ (setLast h r b s).params = s.params ∧ (setLast h r b s).vote = s.vote ∧
    (setLast h r b s).desks = s.desks := by
  simp [setLast]

@[simp] theorem respond_frame (h : HostId) (p : PendingResult) (s : State) :
    (respond h p s).pending = s.pending ∧ (respond h p s).now = s.now ∧
    (respond h p s).resetAsserted = s.resetAsserted ∧ (respond h p s).pool = s.pool ∧
    (respond h p s).cells = s.cells ∧ (respond h p s).freeList = s.freeList ∧ (respond h p s).accounts = s.accounts ∧
    (respond h p s).messages = s.messages ∧ (respond h p s).channels = s.channels ∧ (respond h p s).subs = s.subs ∧
    (respond h p s).entries = s.entries ∧ (respond h p s).queues = s.queues ∧ (respond h p s).rationed = s.rationed ∧
    (respond h p s).turn = s.turn ∧ (respond h p s).claimants = s.claimants ∧
    (respond h p s).lastServed = s.lastServed ∧ (respond h p s).members = s.members ∧
    (respond h p s).params = s.params ∧ (respond h p s).vote = s.vote ∧ (respond h p s).desks = s.desks := by
  simp [respond]

@[simp] theorem awaitPayload_frame (h : HostId) (n : Nat) (s : State) :
    (awaitPayload h n s).pending = s.pending ∧ (awaitPayload h n s).now = s.now ∧
    (awaitPayload h n s).resetAsserted = s.resetAsserted ∧ (awaitPayload h n s).pool = s.pool ∧
    (awaitPayload h n s).cells = s.cells ∧ (awaitPayload h n s).freeList = s.freeList ∧
    (awaitPayload h n s).accounts = s.accounts ∧ (awaitPayload h n s).messages = s.messages ∧
    (awaitPayload h n s).channels = s.channels ∧ (awaitPayload h n s).subs = s.subs ∧
    (awaitPayload h n s).entries = s.entries ∧ (awaitPayload h n s).queues = s.queues ∧
    (awaitPayload h n s).rationed = s.rationed ∧ (awaitPayload h n s).turn = s.turn ∧
    (awaitPayload h n s).claimants = s.claimants ∧ (awaitPayload h n s).lastServed = s.lastServed ∧
    (awaitPayload h n s).members = s.members ∧ (awaitPayload h n s).params = s.params ∧
    (awaitPayload h n s).vote = s.vote ∧ (awaitPayload h n s).desks = s.desks := by
  simp [awaitPayload]

@[simp] theorem renewLease_frame (h : HostId) (s : State) :
    (renewLease h s).pending = s.pending ∧ (renewLease h s).now = s.now ∧
    (renewLease h s).resetAsserted = s.resetAsserted ∧ (renewLease h s).pool = s.pool ∧
    (renewLease h s).cells = s.cells ∧ (renewLease h s).freeList = s.freeList ∧
    (renewLease h s).accounts = s.accounts ∧ (renewLease h s).messages = s.messages ∧
    (renewLease h s).channels = s.channels ∧ (renewLease h s).subs = s.subs ∧ (renewLease h s).entries = s.entries ∧
    (renewLease h s).queues = s.queues ∧ (renewLease h s).rationed = s.rationed ∧ (renewLease h s).turn = s.turn ∧
    (renewLease h s).claimants = s.claimants ∧ (renewLease h s).lastServed = s.lastServed ∧
    (renewLease h s).params = s.params ∧ (renewLease h s).vote = s.vote ∧ (renewLease h s).desks = s.desks ∧
    (renewLease h s).links = s.links := by
  unfold renewLease
  repeat' split
  all_goals simp

@[simp] theorem clearTables_frame (s : State) :
    (clearTables s).pending = s.pending ∧ (clearTables s).now = s.now ∧
    (clearTables s).resetAsserted = s.resetAsserted ∧ (clearTables s).pool = s.pool ∧
    (clearTables s).rationed = s.rationed ∧ (clearTables s).turn = s.turn ∧ (clearTables s).claimants = s.claimants ∧
    (clearTables s).lastServed = s.lastServed ∧ (clearTables s).members = s.members ∧
    (clearTables s).params = s.params ∧ (clearTables s).vote = s.vote ∧ (clearTables s).desks = s.desks ∧
    (clearTables s).links = s.links := by
  simp [clearTables]

@[simp] theorem exchangeClear_frame (s : State) :
    (exchangeClear s).pending = s.pending ∧ (exchangeClear s).now = s.now ∧
    (exchangeClear s).resetAsserted = s.resetAsserted ∧ (exchangeClear s).pool = s.pool ∧
    (exchangeClear s).members = s.members ∧ (exchangeClear s).params = s.params := by
  unfold exchangeClear
  exact ⟨(foldl_keeps State.pending _ _ _ (by simp)).trans (by simp),
    (foldl_keeps State.now _ _ _ (by simp)).trans (by simp),
    (foldl_keeps State.resetAsserted _ _ _ (by simp)).trans (by simp),
    (foldl_keeps State.pool _ _ _ (by simp)).trans (by simp),
    (foldl_keeps State.members _ _ _ (by simp)).trans (by simp),
    (foldl_keeps State.params _ _ _ (by simp)).trans (by simp)⟩

@[simp] theorem judgeVote_frame (s : State) :
    (judgeVote s).pending = s.pending ∧ (judgeVote s).now = s.now ∧ (judgeVote s).resetAsserted = s.resetAsserted ∧
    (judgeVote s).pool = s.pool ∧ (judgeVote s).members = s.members ∧ (judgeVote s).params = s.params := by
  unfold judgeVote
  repeat' split
  all_goals simp

@[simp] theorem freeSubscriptionsOf_frame (h : HostId) (s : State) :
    (freeSubscriptionsOf h s).pending = s.pending ∧ (freeSubscriptionsOf h s).now = s.now ∧
    (freeSubscriptionsOf h s).resetAsserted = s.resetAsserted ∧ (freeSubscriptionsOf h s).pool = s.pool ∧
    (freeSubscriptionsOf h s).cells = s.cells ∧ (freeSubscriptionsOf h s).freeList = s.freeList ∧
    (freeSubscriptionsOf h s).accounts = s.accounts ∧ (freeSubscriptionsOf h s).messages = s.messages ∧
    (freeSubscriptionsOf h s).queues = s.queues ∧ (freeSubscriptionsOf h s).rationed = s.rationed ∧
    (freeSubscriptionsOf h s).turn = s.turn ∧ (freeSubscriptionsOf h s).claimants = s.claimants ∧
    (freeSubscriptionsOf h s).lastServed = s.lastServed ∧ (freeSubscriptionsOf h s).members = s.members ∧
    (freeSubscriptionsOf h s).params = s.params ∧ (freeSubscriptionsOf h s).vote = s.vote ∧
    (freeSubscriptionsOf h s).desks = s.desks ∧ (freeSubscriptionsOf h s).links = s.links := by
  unfold freeSubscriptionsOf
  exact ⟨(foldl_keeps State.pending _ _ _ (by simp)).trans (by simp),
    (foldl_keeps State.now _ _ _ (by simp)).trans (by simp),
    (foldl_keeps State.resetAsserted _ _ _ (by simp)).trans (by simp),
    (foldl_keeps State.pool _ _ _ (by simp)).trans (by simp),
    (foldl_keeps State.cells _ _ _ (by simp)).trans (by simp),
    (foldl_keeps State.freeList _ _ _ (by simp)).trans (by simp),
    (foldl_keeps State.accounts _ _ _ (by simp)).trans (by simp),
    (foldl_keeps State.messages _ _ _ (by simp)).trans (by simp),
    (foldl_keeps State.queues _ _ _ (by simp)).trans (by simp),
    (foldl_keeps State.rationed _ _ _ (by simp)).trans (by simp),
    (foldl_keeps State.turn _ _ _ (by simp)).trans (by simp),
    (foldl_keeps State.claimants _ _ _ (by simp)).trans (by simp),
    (foldl_keeps State.lastServed _ _ _ (by simp)).trans (by simp),
    (foldl_keeps State.members _ _ _ (by simp)).trans (by simp),
    (foldl_keeps State.params _ _ _ (by simp)).trans (by simp),
    (foldl_keeps State.vote _ _ _ (by simp)).trans (by simp),
    (foldl_keeps State.desks _ _ _ (by simp)).trans (by simp),
    (foldl_keeps State.links _ _ _ (by simp)).trans (by simp)⟩

@[simp] theorem abortFillingOf_frame (h : HostId) (s : State) :
    (abortFillingOf h s).pending = s.pending ∧ (abortFillingOf h s).now = s.now ∧
    (abortFillingOf h s).resetAsserted = s.resetAsserted ∧ (abortFillingOf h s).pool = s.pool ∧
    (abortFillingOf h s).subs = s.subs ∧ (abortFillingOf h s).entries = s.entries ∧
    (abortFillingOf h s).queues = s.queues ∧ (abortFillingOf h s).lastServed = s.lastServed ∧
    (abortFillingOf h s).members = s.members ∧ (abortFillingOf h s).params = s.params ∧
    (abortFillingOf h s).vote = s.vote ∧ (abortFillingOf h s).links = s.links := by
  unfold abortFillingOf
  repeat' split
  all_goals simp

@[simp] theorem withdrawVote_frame (h : HostId) (s : State) :
    (withdrawVote h s).pending = s.pending ∧ (withdrawVote h s).now = s.now ∧
    (withdrawVote h s).resetAsserted = s.resetAsserted ∧ (withdrawVote h s).pool = s.pool ∧
    (withdrawVote h s).members = s.members ∧ (withdrawVote h s).params = s.params := by
  simp [withdrawVote]

@[simp] theorem dismantle_frame (h : HostId) (f : Membership) (s : State) :
    (dismantle h f s).pending = s.pending ∧ (dismantle h f s).now = s.now ∧
    (dismantle h f s).resetAsserted = s.resetAsserted ∧ (dismantle h f s).pool = s.pool ∧
    (dismantle h f s).lastServed = s.lastServed ∧ (dismantle h f s).params = s.params ∧
    (dismantle h f s).vote = s.vote := by
  simp [dismantle]

@[simp] theorem teardown_frame (h : HostId) (f : Membership) (n : Notice) (s : State) :
    (teardown h f n s).pending = s.pending ∧ (teardown h f n s).now = s.now ∧
    (teardown h f n s).resetAsserted = s.resetAsserted ∧ (teardown h f n s).pool = s.pool ∧
    (teardown h f n s).params = s.params := by
  simp [teardown]

end Sys2Proof.Machine
end

