-- ==== Sys2Proof/Laws/Arbiter.lean ====
section
/-! SUPPORT. What posting, latching and the Admission Arbiter's operations do, each said once. -/

namespace Sys2Proof.Machine

/-! ## Notices -/

theorem Desk.post_eq (n : Notice) (d : Desk) : Desk.post n d = d.posted n := by
  unfold Desk.post Desk.posted
  by_cases h : d.notices.length < 16 <;> simp [h, Config.noticeQueueSize, Config.maxLost, Latches.latch]

/-- Posting to one host changes its desk alone, and that of a JOINED host alone. -/
theorem post_eq (h : HostId) (n : Notice) (s : State) :
    post h n s = if s.isJoined h then s.setDesk h ((s.desks.read h).posted n) else s := by
  unfold post
  split
  · simp [State.modDesk, State.setDesk, Table.update, Desk.post_eq]
  · rfl

theorem post_isJoined (h g : HostId) (n : Notice) (s : State) : (post h n s).isJoined g = s.isJoined g := by
  simp [State.isJoined]

/-- Posting to each host of a list, none of them twice. -/
theorem foldl_post_desks (n : Notice) (l : List HostId) (hl : l.Nodup) (s : State) (g : HostId) :
    (l.foldl (fun s h => post h n s) s).desks.read g =
      if g ∈ l ∧ s.isJoined g = true then (s.desks.read g).posted n else s.desks.read g := by
  induction l generalizing s with
  | nil => simp
  | cons a l ih =>
    have ha := (List.nodup_cons.1 hl).1
    rw [List.foldl_cons, ih (List.nodup_cons.1 hl).2, post_isJoined, post_eq]
    by_cases hg : g = a
    · subst hg
      cases hj : s.isJoined g <;> simp [ha, State.setDesk]
    · cases hj : s.isJoined a <;> simp [hg, State.setDesk, Table.read_write]

theorem postAll_desks (n : Notice) (s : State) (g : HostId) :
    (postAll n s).desks.read g = if s.isJoined g = true then (s.desks.read g).posted n else s.desks.read g := by
  simpa [postAll] using foldl_post_desks n allHosts (by decide) s g

theorem postOthers_desks (h : HostId) (n : Notice) (s : State) (g : HostId) :
    (postOthers h n s).desks.read g =
      if g ≠ h ∧ s.isJoined g = true then (s.desks.read g).posted n else s.desks.read g := by
  simpa [postOthers] using foldl_post_desks n (allHosts.filter (· ≠ h)) (List.Nodup.filter _ (by decide)) s g

/-! ## Turns -/

theorem latch_turn_eq (h : HostId) (s : State) : latch h .turn s = s.setDesk h (s.desks.read h).turnLatched := by
  simp [latch, State.modDesk, State.setDesk, Table.update, Desk.turnLatched, Latches.latch]

theorem latchTurns_desks (hs : HostSet) (s : State) (g : HostId) :
    (latchTurns hs s).desks.read g = if hs.read g = true then (s.desks.read g).turnLatched else s.desks.read g := by
  have key : ∀ (l : List HostId), l.Nodup → ∀ s : State,
      (l.foldl (fun s h => latch h .turn s) s).desks.read g =
        if g ∈ l then (s.desks.read g).turnLatched else s.desks.read g := by
    intro l hl
    induction l with
    | nil => simp
    | cons a l ih =>
      intro s
      have ha := (List.nodup_cons.1 hl).1
      rw [List.foldl_cons, ih (List.nodup_cons.1 hl).2, latch_turn_eq]
      by_cases hg : g = a
      · subst hg; simp [ha, State.setDesk]
      · simp [hg, State.setDesk, Table.read_write]
  unfold latchTurns
  rw [key _ (List.Nodup.filter _ (by decide))]
  simp

/-- The end of rationing, with the desks it leaves. -/
theorem endRationing_eq (s : State) : ∃ d,
    endRationing s = { s with rationed := false, claimants := noHosts, turn := .none, desks := d }
      ∧ ∀ g, d.read g =
        if s.claimants.read g || s.turn.isGrantedTo g then (s.desks.read g).turnLatched else s.desks.read g := by
  refine ⟨(endRationing s).desks, ?_, fun g => ?_⟩
  · unfold endRationing
    cases s.turn <;> simp [latchTurns_frame, latch_frame]
  · unfold endRationing
    cases ht : s.turn with
    | none => simp [latchTurns_desks, Turn.isGrantedTo]
    | inUse => simp [latchTurns_desks, Turn.isGrantedTo]
    | granted h d =>
      simp only [latch_turn_eq, latchTurns_desks, Turn.isGrantedTo, State.setDesk, Table.read_write]
      by_cases hg : g = h
      · subst hg; cases s.claimants.read g <;> simp [Desk.turnLatched]
      · cases s.claimants.read g <;> simp [hg, Ne.symm hg]

/-- A re-evaluation of the rationed flag, with the desks it leaves. -/
theorem reevaluate_eq (s : State) : ∃ d,
    let ends := s.rationed && !rationedAfter s s.freeList.length
    reevaluate s = { s with
        rationed := rationedAfter s s.freeList.length
        turn := if ends then .none else s.turn
        claimants := if ends then noHosts else s.claimants
        desks := d }
      ∧ ∀ g, d.read g = if ends && (s.claimants.read g || s.turn.isGrantedTo g) then (s.desks.read g).turnLatched
        else s.desks.read g := by
  unfold rationedAfter
  cases hr : s.rationed
  · refine ⟨s.desks, ?_, by simp⟩
    by_cases h : s.freeList.length ≤ s.params.reserveThreshold <;> simp [reevaluate, hr, State.freeCount, h]
    rw [← hr]
  · by_cases h : s.params.reserveThreshold + 16 ≤ s.freeList.length
    · obtain ⟨d, hd, hg⟩ := endRationing_eq s
      have h' : ¬ s.freeList.length < s.params.reserveThreshold + 16 := by omega
      exact ⟨d, by simp [reevaluate, hr, State.freeCount, Config.hysteresis, h, h', hd], by simp [h', hg]⟩
    · have h' : s.freeList.length < s.params.reserveThreshold + 16 := by omega
      refine ⟨s.desks, ?_, by simp [h']⟩
      simp [reevaluate, hr, State.freeCount, Config.hysteresis, h, h']
      rw [← hr]

/-- The end of a turn: it passes to the next claimant, or to none. -/
theorem endTurn_cases (s : State) :
    (s.nextClaimant = none ∧ endTurn s = { s with turn := .none })
      ∨ ∃ h, s.nextClaimant = some h ∧ endTurn s =
        { s with
          turn := .granted h (s.now + s.params.turnWindow), claimants := HostSet.erase s.claimants h
          desks := s.desks.write h (s.desks.read h).turnLatched } := by
  unfold endTurn
  cases hn : s.nextClaimant with
  | none => exact .inl ⟨rfl, rfl⟩
  | some h => exact .inr ⟨h, rfl, by simp [grantTurn, latch_turn_eq, State.setDesk]⟩

theorem nextClaimant_claims {s : State} {h : HostId} (hn : s.nextClaimant = some h) : s.claimants.read h = true :=
  List.find?_some hn

/-- Everything the arbiter can answer to a BEGIN. -/
theorem arbitrate_cases (h : HostId) (s : State) :
    (s.rationed = false ∧ arbitrate h s = (s, true))
      ∨ (s.rationed = true ∧ ∃ d, arbitrate h s = ({ s with turn := .inUse h d, lastServed := some h }, true)
        ∧ ((s.turn = .none ∧ d = s.now + s.params.turnWindow) ∨ s.turn = .granted h d))
      ∨ (s.rationed = true ∧ arbitrate h s = ({ s with claimants := HostSet.insert s.claimants h }, false)
        ∧ ∃ g d, s.turn = .inUse g d ∨ (s.turn = .granted g d ∧ g ≠ h)) := by
  unfold arbitrate
  cases s.rationed
  · exact .inl ⟨rfl, rfl⟩
  · cases s.turn with
    | none => exact .inr (.inl ⟨rfl, _, rfl, .inl ⟨rfl, rfl⟩⟩)
    | inUse g d => exact .inr (.inr ⟨rfl, rfl, g, d, .inl rfl⟩)
    | granted g d =>
      by_cases hg : g = h
      · subst hg; exact .inr (.inl ⟨rfl, d, by simp, .inr rfl⟩)
      · exact .inr (.inr ⟨rfl, by simp [hg], g, d, .inr ⟨rfl, hg⟩⟩)

end Sys2Proof.Machine
end

