-- ==== Sys2Proof/Laws/Cells.lean ====
section
/-! SUPPORT. What the Cell Pool's and the Message Table's operations do, each said once. -/

namespace Sys2Proof.Machine

/-! ## Charge and the exhausted mark -/

/-- Whether an exhausted host's credit lifts its mark (R11). -/
theorem judgeMark_eq (h : HostId) (s : State) :
    judgeMark h s =
      if (s.accounts.read h).exhausted = true then
        if s.credit h ≠ 0 ∧ (s.members.read h).creditThreshold ≤ s.credit h then
          { s with
            accounts := s.accounts.write h { s.accounts.read h with exhausted := false }
            desks := s.desks.write h
              { s.desks.read h with latches := { (s.desks.read h).latches with credit := true } } }
        else s
      else if s.credit h = 0 then
        { s with accounts := s.accounts.write h { s.accounts.read h with exhausted := true } }
      else s := by
  unfold judgeMark
  by_cases h0 : s.credit h = 0 <;> by_cases h1 : (s.members.read h).creditThreshold ≤ s.credit h <;>
    simp [h0, h1, latch, State.modAccount, State.modDesk, Table.update, Latches.latch]

/-- A charge set: the account's charge, and a mark judged where the credit changed and the host is JOINED. -/
theorem setCharge_eq (h : HostId) (c : Nat) (s : State) :
    let a : Account := { s.accounts.read h with charge := c }
    setCharge h c s =
      if a.credit ≠ s.credit h ∧ s.isJoined h = true then judgeMark h { s with accounts := s.accounts.write h a }
      else { s with accounts := s.accounts.write h a } := by
  simp only [setCharge, State.modAccount, Table.update, State.credit, Table.read_write_self]
  rfl

/-- No mark but the charged host's moves, and no quota. -/
theorem setCharge_others {h g : HostId} (c : Nat) (s : State) (hg : g ≠ h) :
    (setCharge h c s).accounts.read g = s.accounts.read g ∧ (setCharge h c s).desks.read g = s.desks.read g := by
  simp only [setCharge_eq, judgeMark_eq]
  repeat' split
  all_goals simp [hg, Table.read_write]

theorem setCharge_account (h : HostId) (c : Nat) (s : State) :
    ((setCharge h c s).accounts.read h).quota = (s.accounts.read h).quota
      ∧ ((setCharge h c s).accounts.read h).charge = c := by
  simp only [setCharge_eq, judgeMark_eq]
  repeat' split
  all_goals simp

/-! ## Chains -/

theorem walk_length_le (cells : Table CellRec 512) (n : Nat) (h : Option CellId) : (walk cells n h).length ≤ n := by
  induction n generalizing h with
  | zero => simp [walk]
  | succ n ih => cases h <;> simp [walk, ih]

/-- A walk reads the next cells of its own cells alone. -/
theorem walk_congr {cells cells' : Table CellRec 512} {n : Nat} {h : Option CellId}
    (hc : ∀ c ∈ walk cells n h, (cells'.read c).next = (cells.read c).next) : walk cells' n h = walk cells n h := by
  induction n generalizing h with
  | zero => simp [walk]
  | succ n ih =>
    cases h with
    | none => simp [walk]
    | some c =>
      simp only [walk, List.mem_cons, forall_eq_or_imp] at hc ⊢
      rw [hc.1, ih hc.2]

/-! ## Freeing -/

theorem returnCells_eq (l : List CellId) (s : State) :
    returnCells l s = { s with cells := (returnCells l s).cells, freeList := s.freeList ++ l } := by
  have key : ∀ (l : List CellId) (s : State), l.foldl (fun s c => s.modCell c (fun _ => CellRec.free)) s =
      { s with cells := (l.foldl (fun s c => s.modCell c (fun _ => CellRec.free)) s).cells } := by
    intro l
    induction l with
    | nil => intro s; rfl
    | cons a l ih => intro s; rw [List.foldl_cons, ih]; rfl
  unfold returnCells
  rw [key]

theorem returnCells_cells (l : List CellId) (s : State) (c : CellId) :
    (returnCells l s).cells.read c = if c ∈ l then CellRec.free else s.cells.read c := by
  unfold returnCells
  simp only
  induction l generalizing s with
  | nil => simp
  | cons a l ih =>
    rw [List.foldl_cons, ih]
    by_cases hc : c ∈ l
    · simp [hc]
    · by_cases ha : c = a
      · subst ha; simp [hc]
      · simp [hc, ha, Table.read_update]

theorem Channel.lessOne_eq (c : Channel) :
    c.lessOne = if c.state = .draining ∧ c.liveCount ≤ 1 then Channel.closed
      else { c with liveCount := c.liveCount - 1 } := by
  simp [Channel.lessOne, Nat.sub_eq_zero_iff_le]

/-- A release counts down and frees at 0. -/
theorem release_eq (m : MsgId) (s : State) :
    let x := s.messages.read m
    let u := { s with messages := s.messages.write m { x with refCount := x.refCount - 1 } }
    release m s = if x.refCount - 1 = 0 then freeMessage m u else u := by
  simp [release, State.modMessage, Table.update]

/-! ## Allocation -/

theorem linkRun_cells_of_notMem {run : List CellId} {c : CellId} (s : State) (hc : c ∉ run) :
    (linkRun run s).cells.read c = s.cells.read c := by
  induction run generalizing s with
  | nil => rfl
  | cons a rest ih =>
    cases rest with
    | nil => rfl
    | cons b rest =>
      simp only [List.mem_cons, not_or] at hc
      rw [linkRun, ih _ (by simpa using hc.2)]
      simp [Table.read_update, hc.1]

end Sys2Proof.Machine
end

