-- ==== Sys2Proof/Laws/Links.lean ====
section
/-! SUPPORT. What the shared forms of a command on a link do: the deselect that executes a request, the deselect that
commits a read, the byte that completes a header, and the deselect after an event. -/

namespace Sys2Proof.Machine

theorem Link.request_serial (l : Link) : l.request.serial = l.serial := rfl

/-- The state in which a deselect's request is carried out: only the link has changed. -/
theorem closeTransaction_eq (h : HostId) (s : State) :
    closeTransaction h s = s.setLink h
      { s.links.read h with sel := false, selectSeen := true, phase := .idle, payload := [], pendingResult := none } := by
  simp [closeTransaction, deselect, State.setLink, State.modLink, Table.update]

/-- The end of a transaction in which nothing but the link changed. -/
theorem setLast_closeTransaction (h : HostId) (r : Reply) (s : State) :
    setLast h r (s.links.read h).serial (closeTransaction h s) = s.ended h r.result r.value := by
  simp [closeTransaction_eq, setLast, State.ended, Link.ended, State.setLink, State.modLink, Table.update]

/-- The end of a transaction whose request left the links alone. -/
theorem setLast_eq {h : HostId} {s t : State} (r : Reply) (ht : t.links = (closeTransaction h s).links) :
    setLast h r (s.links.read h).serial t = { t with links := (s.ended h r.result r.value).links } := by
  rw [← setLast_closeTransaction]
  simp [setLast, State.modLink, ht]

/-- The deselect on a complete transaction of a request the command names: the request is carried out. -/
theorem endRequest_of_carries {s : State} {h : HostId} {r : Request} {which : Request → Bool}
    {owner : Link → State → State × Reply} (hc : s.carriesRequest h r) (hw : which r = true) :
    endRequest h which owner s = .next
      (setLast h (owner (s.links.read h) (closeTransaction h s)).2 (s.links.read h).serial
        (owner (s.links.read h) (closeTransaction h s)).1) := by
  obtain ⟨hp, hr, hv, rfl⟩ := hc
  simp [endRequest, Link.isComplete, hp, hr, hv, hw, Link.request_serial]

/-- A request that its owner turns away leaves nothing but the link changed. -/
theorem endRequest_refused {s : State} {h : HostId} {r : Request} {which : Request → Bool} {c : ResultCode}
    {v : Word16} {owner : Link → State → State × Reply} (hc : s.carriesRequest h r) (hw : which r = true)
    (ho : owner (s.links.read h) (closeTransaction h s) = (closeTransaction h s, { result := c, value := v })) :
    endRequest h which owner s = .next (s.ended h c v) := by
  rw [endRequest_of_carries hc hw, ho, setLast_closeTransaction]

/-- An accepted request whose owner leaves the links alone. -/
theorem endRequest_accepted {s t : State} {h : HostId} {r : Request} {which : Request → Bool} {v : Word16}
    {owner : Link → State → State × Reply} (hc : s.carriesRequest h r) (hw : which r = true)
    (ho : owner (s.links.read h) (closeTransaction h s) = accept t v)
    (ht : t.links = (closeTransaction h s).links) :
    endRequest h which owner s = .next { t with links := (s.ended h .ok v).links } := by
  rw [endRequest_of_carries hc hw, ho, ← setLast_eq { result := .ok, value := v } ht]
  rfl

/-- The deselect on a complete read of the kind the command names: the read is committed. -/
theorem endRead_of_carries {s : State} {h : HostId} {k : Kind} {p : PendingResult} {owner : Commit → State → State}
    (hc : s.carriesRead h k p) :
    endRead h k owner s = .next (setLast h { result := p.result, value := p.value } (s.links.read h).serial
      (owner p.commit (closeTransaction h s))) := by
  obtain ⟨hp, hr, hv, hk, hq⟩ := hc
  simp [endRead, Link.isComplete, hp, hr, hv, hk, hq, Link.request_serial]

/-- A byte that completes a good header whose request the command names. -/
theorem headerEnd_of_meetsCheck {s : State} {h : HostId} {b : Byte} {r : Request} {which : Request → Bool}
    {answer : Request → State → State} (hm : s.meetsCheck h b r) (hw : which r = true) :
    headerEnd h b true which answer s = .next (answer r (captureByte h b s)) := by
  obtain ⟨hp, hl, hc, rfl⟩ := hm
  have hr : Request.ofHeader ((s.links.read h).header ++ [b]) = (s.links.read h).request := by
    simp only [Link.request, Request.ofHeader, List.getD_eq_getElem?_getD]
    congr 1 <;> simp [hl]
  simp [headerEnd, Link.completesHeader, hp, hl, hc, hr, hw]

/-- Every deselect in DISCARD reports nothing. -/
theorem deselectAfterEvent_discard {s : State} {h : HostId} (hp : (s.links.read h).phase = .discard) :
    deselectAfterEvent h s = .next (deselect h s) := by
  simp [deselectAfterEvent, hp]

/-- A deselect after an event changes nothing but the link's pin, flag and state. -/
theorem deselectAfterEvent_cases {s t : State} {h : HostId} (ht : deselectAfterEvent h s = .next t) :
    t = deselect h s ∧ ((s.links.read h).phase = .discard
      ∨ ((s.links.read h).phase = .idle ∧ (s.links.read h).sel = true)) := by
  unfold deselectAfterEvent at ht
  cases hp : (s.links.read h).phase <;> simp [hp] at ht ⊢
  · split at ht
    · exact ⟨by cases ht; rfl, ‹_›⟩
    · cases ht
  · exact ht.symm

/-- Everything a deselect that names a request can do. -/
theorem endRequest_cases {s t : State} {h : HostId} {which : Request → Bool} {owner : Link → State → State × Reply}
    (ht : endRequest h which owner s = .next t) :
    (∃ r, s.carriesRequest h r ∧ which r = true
        ∧ t = setLast h (owner (s.links.read h) (closeTransaction h s)).2 (s.links.read h).serial
          (owner (s.links.read h) (closeTransaction h s)).1)
      ∨ deselectAfterEvent h s = .next t := by
  simp only [endRequest] at ht
  split at ht
  · rename_i hc
    simp only [Link.isComplete, Bool.and_eq_true, beq_iff_eq, Bool.not_eq_true'] at hc
    exact .inl ⟨_, ⟨hc.1.1.1, hc.1.1.2, hc.1.2, rfl⟩, hc.2, by cases ht; rfl⟩
  · exact .inr ht

/-- Everything a deselect that commits a read can do. -/
theorem endRead_cases {s t : State} {h : HostId} {k : Kind} {owner : Commit → State → State}
    (ht : endRead h k owner s = .next t) :
    (∃ p, s.carriesRead h k p
        ∧ t = setLast h { result := p.result, value := p.value } (s.links.read h).serial
          (owner p.commit (closeTransaction h s)))
      ∨ deselectAfterEvent h s = .next t := by
  simp only [endRead] at ht
  split at ht
  · rename_i hc
    simp only [Link.isComplete, Bool.and_eq_true, beq_iff_eq, Bool.not_eq_true'] at hc
    split at ht
    · rename_i p hp
      exact .inl ⟨p, ⟨hc.1.1.1, hc.1.1.2, hc.1.2, hc.2, hp⟩, by cases ht; rfl⟩
    · cases ht
  · exact .inr ht

/-- Everything a byte that completes a header can do. -/
theorem headerEnd_cases {s t : State} {h : HostId} {b : Byte} {good : Bool} {which : Request → Bool}
    {answer : Request → State → State} (ht : headerEnd h b good which answer s = .next t) :
    ((s.links.read h).completesHeader b good = true ∧ which (Request.ofHeader ((s.links.read h).header ++ [b])) = true
        ∧ t = answer (Request.ofHeader ((s.links.read h).header ++ [b])) (captureByte h b s))
      ∨ t = s := by
  simp only [headerEnd] at ht
  split at ht
  · rename_i hc
    exact .inl ⟨(Bool.and_eq_true _ _ ▸ hc).1, (Bool.and_eq_true _ _ ▸ hc).2, by cases ht; rfl⟩
  · split at ht
    · exact .inr (by cases ht; rfl)
    · cases ht

end Sys2Proof.Machine
end

