-- ==== Sys2Proof/Laws/Memory.lean ====
section
/-! SUPPORT. The pool's data bytes: a write is read back, leaves every other byte alone, and keeps the canonical form;
and every operation that writes bytes keeps it. -/

namespace Sys2Proof.Machine

/-- A list that rises from a bound rises from any lower one. -/
theorem Memory.risesFrom_mono {lo hi : Nat} {m : List Host.Cell} (h : Memory.risesFrom hi m = true) (hle : lo ≤ hi) :
    Memory.risesFrom lo m = true := by
  cases m with
  | nil => rfl
  | cons p rest =>
    obtain ⟨a, b⟩ := p
    simp only [Memory.risesFrom, Bool.and_eq_true, decide_eq_true_eq] at h ⊢
    exact ⟨⟨by omega, h.1.2⟩, h.2⟩

/-- One more entry below a rising list, or none for a blank byte. -/
theorem Memory.risesFrom_cons {lo x : Nat} {v : Byte} {rest : List Host.Cell} (hx : lo ≤ x)
    (h : Memory.risesFrom (x + 1) rest = true) : Memory.risesFrom lo (Memory.cons x v rest) = true := by
  unfold Memory.cons
  split
  · exact Memory.risesFrom_mono h (by omega)
  · next hv => simp [Memory.risesFrom, hx, hv, h]

/-- A write keeps the canonical form. -/
theorem Memory.risesFrom_write {lo x : Nat} {v : Byte} {m : List Host.Cell} (h : Memory.risesFrom lo m = true)
    (hx : lo ≤ x) : Memory.risesFrom lo (Memory.write m x v) = true := by
  induction m generalizing lo with
  | nil => exact Memory.risesFrom_cons hx rfl
  | cons p rest ih =>
    obtain ⟨a, b⟩ := p
    simp only [Memory.risesFrom, Bool.and_eq_true, decide_eq_true_eq] at h
    unfold Memory.write
    split
    · next hlt => exact Memory.risesFrom_cons hx (by simp [Memory.risesFrom, h.1.2, h.2]; omega)
    · split
      · next heq => subst heq; exact Memory.risesFrom_cons hx h.2
      · next hge hne =>
        simp only [Memory.risesFrom, Bool.and_eq_true, decide_eq_true_eq]
        exact ⟨h.1, ih h.2 (by omega)⟩

/-- A write keeps the canonical form. -/
theorem Memory.wf_write {m : List Host.Cell} (x : Nat) (v : Byte) (h : Memory.wf m = true) :
    Memory.wf (Memory.write m x v) = true := Memory.risesFrom_write h (Nat.zero_le x)

/-- The memory at reset is in canonical form. -/
theorem State.reset_pool_wf : Memory.wf State.reset.pool = true := rfl

/-- An address below every listed one reads as blank. -/
theorem Memory.read_below {lo y : Nat} {m : List Host.Cell} (h : Memory.risesFrom lo m = true) (hy : y < lo) :
    Memory.read m y = Memory.blank := by
  induction m generalizing lo with
  | nil => rfl
  | cons p rest ih =>
    obtain ⟨a, b⟩ := p
    simp only [Memory.risesFrom, Bool.and_eq_true, decide_eq_true_eq] at h
    rw [Memory.read, if_neg (by omega)]
    exact ih h.2 (by omega)

theorem Memory.read_cons {x y : Nat} {v : Byte} {rest : List Host.Cell} (h : Memory.risesFrom (x + 1) rest = true) :
    Memory.read (Memory.cons x v rest) y = if y = x then v else Memory.read rest y := by
  unfold Memory.cons
  split
  · next hv =>
    split
    · next hy => rw [hy, Memory.read_below h (by omega), hv]
    · rfl
  · simp only [Memory.read, eq_comm]

/-- A byte written is read back, and every other byte reads as before. -/
theorem Memory.read_write {m : List Host.Cell} (x y : Nat) (v : Byte) (h : Memory.wf m = true) :
    Memory.read (Memory.write m x v) y = if y = x then v else Memory.read m y := by
  suffices hs : ∀ lo, Memory.risesFrom lo m = true →
      Memory.read (Memory.write m x v) y = if y = x then v else Memory.read m y from hs 0 h
  intro lo hlo
  induction m generalizing lo with
  | nil => simpa [Memory.write] using Memory.read_cons (x := x) (y := y) (v := v) (rest := []) rfl
  | cons p rest ih =>
    obtain ⟨a, b⟩ := p
    have hrest := hlo
    simp only [Memory.risesFrom, Bool.and_eq_true, decide_eq_true_eq] at hrest
    unfold Memory.write
    split
    · next hlt => exact Memory.read_cons (by simp [Memory.risesFrom, hrest.1.2, hrest.2]; omega)
    · split
      · next heq =>
        subst heq
        rw [Memory.read_cons hrest.2]
        split
        · rfl
        · next hy => rw [Memory.read, if_neg (fun hh => hy hh.symm)]
      · next hge hne =>
        have ih' := ih (Memory.risesFrom_mono hrest.2 (Nat.zero_le _)) (a + 1) hrest.2
        rw [Memory.read, ih', Memory.read]
        split <;> split <;> simp_all

/-- Storing bytes along a chain keeps the canonical form. -/
theorem storeBytes_wf (chain : List CellId) (k : Nat) (bs : List Byte) (pool : List Host.Cell)
    (h : Memory.wf pool = true) : Memory.wf (storeBytes chain k bs pool) = true := by
  induction bs generalizing k pool with
  | nil => exact h
  | cons b bs ih =>
    unfold storeBytes
    split
    · exact ih _ _ (Memory.wf_write _ _ h)
    · exact h

/-- The one operation that writes the pool's bytes keeps their canonical form. -/
theorem appendBytes_wf (m : MsgId) (bs : List Byte) (s : State) (h : Memory.wf s.pool = true) :
    Memory.wf (appendBytes m bs s).pool = true := by
  unfold appendBytes
  dsimp only
  split <;> simpa using storeBytes_wf _ _ _ _ h

end Sys2Proof.Machine
end

