-- ==== Sys2Proof/Laws/Tables.lean ====
section
/-! SUPPORT. Finding records: the lowest index that passes a test, the slot that holds a key, a host's FILLING message, the
record an index names, and the first refusal of a table. -/

namespace Sys2Proof

/-- The lowest index that passes a test, by what makes it the lowest. -/
theorem Table.lowest_eq_some_iff {α : Type} {n : Nat} (t : Table α n) (p : α → Bool) (i : Fin n) :
    t.lowest p = some i ↔ p (t.read i) = true ∧ ∀ j, j < i → p (t.read j) = false := by
  unfold Table.lowest
  rw [List.find?_eq_some_iff_getElem]
  constructor
  · rintro ⟨hp, k, hk, rfl, hj⟩
    refine ⟨by simpa using hp, fun j hlt => ?_⟩
    have := hj j.val (by simpa [Fin.lt_def] using hlt)
    simpa using this
  · rintro ⟨hp, hj⟩
    refine ⟨hp, i.val, by simp, by simp, fun k hk => ?_⟩
    have := hj ⟨k, by omega⟩ (by simpa [Fin.lt_def] using hk)
    simpa using this

theorem Table.lowest_eq_none_iff {α : Type} {n : Nat} (t : Table α n) (p : α → Bool) :
    t.lowest p = none ↔ ∀ j, p (t.read j) = false := by
  simp [Table.lowest]

/-- The one index that passes a test is the lowest. -/
theorem Table.lowest_of_unique {α : Type} {n : Nat} {t : Table α n} {p : α → Bool} {i : Fin n}
    (hi : p (t.read i) = true) (hu : ∀ j, p (t.read j) = true → j = i) : t.lowest p = some i := by
  cases h : t.lowest p with
  | none => simp [(Table.lowest_eq_none_iff t p).1 h i] at hi
  | some j => rw [hu j (Table.lowest_some h)]

namespace Machine

/-- In an orderly Channel Table the slot that holds a key is the one found. -/
theorem findKey_of_holdsKey {s : State} {k : Word16} {i : ChanId} (hl : channelTableLaw s)
    (hk : s.holdsKey k i = true) : s.findKey k = some i := by
  simp only [State.holdsKey, Bool.and_eq_true, bne_iff_ne, ne_eq, beq_iff_eq] at hk
  simp only [State.findKey, hk.1.1, if_false]
  refine Table.lowest_of_unique (by simp [hk]) fun j hj => ?_
  simp only [Bool.and_eq_true, bne_iff_ne, ne_eq, beq_iff_eq] at hj
  exact hl.2.2.1 j i hj.1 hk.1.2 (hj.2.trans hk.2.symm)

theorem holdsKey_of_findKey {s : State} {k : Word16} {i : ChanId} (hf : s.findKey k = some i) :
    s.holdsKey k i = true := by
  simp only [State.findKey] at hf
  split at hf
  · cases hf
  · rename_i h0
    have := Table.lowest_some hf
    simp_all [State.holdsKey]

theorem findKey_eq_none_iff (s : State) (k : Word16) : s.findKey k = none ↔ ∀ i, s.holdsKey k i = false := by
  constructor
  · intro hf i
    by_cases h0 : k = 0
    · simp [State.holdsKey, h0]
    · simp only [State.findKey, h0, if_false, Table.lowest_eq_none_iff] at hf
      have := hf i
      simp_all [State.holdsKey]
  · intro h
    cases hf : s.findKey k with
    | none => rfl
    | some i => simpa [h i] using holdsKey_of_findKey hf

/-- Where a key is found, its state is the state the refusal tables see. -/
theorem keyIs_eq {s : State} {k : Word16} {i : ChanId} (hl : channelTableLaw s) (hf : s.findKey k = some i)
    (x : ChanState) : s.keyIs k x = decide ((s.channels.read i).state = x) := by
  have hi := holdsKey_of_findKey hf
  rw [Bool.eq_iff_iff]
  simp only [State.keyIs, List.any_eq_true, Bool.and_eq_true, beq_iff_eq, decide_eq_true_eq]
  constructor
  · rintro ⟨j, -, hj, rfl⟩
    have := findKey_of_holdsKey hl hj
    rw [hf] at this
    cases this
    rfl
  · intro h
    exact ⟨i, List.mem_finRange i, hi, h⟩

theorem keyIs_of_none {s : State} {k : Word16} (hf : s.findKey k = none) (x : ChanState) : s.keyIs k x = false := by
  simp [State.keyIs, (findKey_eq_none_iff s k).1 hf]

theorem isFilling_eq (s : State) (h : HostId) : s.isFilling h = (s.fillingOf h).isSome := by
  cases hf : s.fillingOf h with
  | none =>
    have := (Table.lowest_eq_none_iff _ _).1 hf
    simp only [State.isFilling, Option.isSome_none, List.any_eq_false]
    intro m _
    simp [this m]
  | some m =>
    have := Table.lowest_some hf
    simp only [State.isFilling, Option.isSome_some, List.any_eq_true]
    exact ⟨m, List.mem_finRange m, this⟩

theorem firstRefusal_cons_true {c : Bool} {r : ResultCode} {rest : List (Bool × ResultCode)} (hc : c = true) :
    firstRefusal ((c, r) :: rest) = some r := by simp [firstRefusal, hc]

theorem firstRefusal_cons_false {c : Bool} {r : ResultCode} {rest : List (Bool × ResultCode)} (hc : c = false) :
    firstRefusal ((c, r) :: rest) = firstRefusal rest := by simp [firstRefusal, hc]

/-- No refusal: no condition of the table holds. -/
theorem firstRefusal_eq_none_iff (l : List (Bool × ResultCode)) :
    firstRefusal l = none ↔ ∀ x ∈ l, x.1 = false := by
  induction l with
  | nil => simp [firstRefusal]
  | cons x l ih => cases h : x.1 <;> simp [firstRefusal, h, ih]

end Machine

end Sys2Proof
end

