-- ==== Sys2Proof/Laws/Time.lean ====
section
/-! SUPPORT. When a deadline is due, and what the time step and the expiries answer (R188). -/

namespace Sys2Proof.Machine

theorem reached_eq_true_iff (deadline : Option Nat) (now : Nat) :
    reached deadline now = true ↔ ∃ d, deadline = some d ∧ d ≤ now := by
  cases deadline <;> simp [reached]

theorem State.leaseDue_eq_true_iff (s : State) (h : HostId) :
    s.leaseDue h = true ↔ s.isJoined h = true ∧ ∃ d, (s.members.read h).leaseDeadline = some d ∧ d ≤ s.now := by
  simp only [State.leaseDue, Bool.and_eq_true, reached_eq_true_iff]

theorem State.turnDue_eq_true_iff (s : State) : s.turnDue = true ↔ ∃ d, s.turn.deadline = some d ∧ d ≤ s.now :=
  reached_eq_true_iff _ _

theorem State.voteDue_eq_true_iff (s : State) : s.voteDue = true ↔ ∃ v, s.vote = some v ∧ v.deadline ≤ s.now := by
  simp only [State.voteDue, reached_eq_true_iff, Option.map_eq_some_iff]
  exact ⟨fun ⟨_, ⟨v, hv, hd⟩, hle⟩ => ⟨v, hv, hd ▸ hle⟩, fun ⟨v, hv, hle⟩ => ⟨_, ⟨v, hv, rfl⟩, hle⟩⟩

theorem State.expiryDue_eq_true_iff (s : State) :
    s.expiryDue = true ↔ (∃ h, s.leaseDue h = true) ∨ s.turnDue = true ∨ s.voteDue = true := by
  have hm : ∀ h : HostId, h ∈ allHosts := by decide
  simp only [State.expiryDue, Bool.or_eq_true, List.any_eq_true, or_assoc]
  exact or_congr_left ⟨fun ⟨h, _, hd⟩ => ⟨h, hd⟩, fun ⟨h, hd⟩ => ⟨h, hm h, hd⟩⟩

/-- Everything a time step can do. -/
theorem execMillisecondTimeStep_cases (s : State) :
    (s.resetAsserted = true ∧ execMillisecondTimeStep s = .next s)
      ∨ (s.resetAsserted = false ∧ s.expiryDue = true ∧ execMillisecondTimeStep s = .refused .notThatEvent)
      ∨ (s.resetAsserted = false ∧ s.expiryDue = false
        ∧ execMillisecondTimeStep s = .next { s with now := s.now + 1 }) := by
  unfold execMillisecondTimeStep
  cases s.resetAsserted <;> cases s.expiryDue <;> simp

/-- Everything a LEASE_EXPIRY can do. -/
theorem execLeaseExpiry_cases (h : HostId) (s : State) :
    (s.leaseDue h = true ∧ execLeaseExpiry h s = .next (teardown h .lapsed (.hostLapsed h) s))
      ∨ (s.leaseDue h = false ∧ execLeaseExpiry h s = .next s) := by
  unfold execLeaseExpiry
  cases s.leaseDue h <;> simp

/-- Everything a VOTE_DEADLINE can do. -/
theorem execVoteDeadline_cases (s : State) :
    (s.voteDue = true ∧ execVoteDeadline s = .next (postAll .voteFailed { s with vote := none }))
      ∨ (s.voteDue = false ∧ execVoteDeadline s = .next s) := by
  unfold execVoteDeadline
  cases s.voteDue <;> simp

/-- Everything a TURN_EXPIRY can do. -/
theorem execTurnExpiry_cases (s : State) :
    (s.turnDue = false ∧ execTurnExpiry s = .next s)
      ∨ (s.turnDue = true ∧ ∃ h d, s.turn = .granted h d ∧ execTurnExpiry s = .next (endTurn (post h .turnMissed s)))
      ∨ (s.turnDue = true ∧ ∃ h d, s.turn = .inUse h d ∧ execTurnExpiry s = .next (endTurn s)) := by
  unfold execTurnExpiry
  cases hd : s.turnDue with
  | false => simp
  | true =>
    match ht : s.turn with
    | .none => simp [State.turnDue, ht, Turn.deadline, reached] at hd
    | .granted h d => exact .inr (.inl ⟨rfl, h, d, rfl, by simp⟩)
    | .inUse h d => exact .inr (.inr ⟨rfl, h, d, rfl, by simp⟩)

end Sys2Proof.Machine
end

