-- ==== Sys2Proof/WellFormed.lean ====
section
/-! DEFINITION. What makes a command well formed.

Every operand of a command is a link number or a byte, and its type holds its range: a term of `Instr` cannot name a
fifth link or a ninth bit. The two checks stand where an operand comes in from outside as a plain number. -/

namespace Sys2Proof

/-- A link number from outside: 0 to 3, refused above (00_scope.md, hosts and links). -/
def hostOf? (n : Nat) : Option HostId :=
  if h : n < 4 then some ⟨n, h⟩ else none

/-- A byte from outside: 0 to 255, refused above (R127: a link moves whole bytes). -/
def byteOf? (n : Nat) : Option Byte :=
  if n < 256 then some (BitVec.ofNat 8 n) else none

/-- The link a command concerns; absent for the commands of the part as a whole. -/
def Instr.link : Instr → Option HostId
  | .deviceReset => none
  | .turnExpiry => none
  | .voteDeadline => none
  | .resetRelease => none
  | .millisecondTimeStep => none
  | .selAsserted h => some h
  | .headerGoodCheck h _ => some h
  | .headerBadCheck h _ => some h
  | .deselectInDiscard h => some h
  | .transactionVoid h => some h
  | .unknownRequest h => some h
  | .join h => some h
  | .leave h => some h
  | .setLeasePeriod h => some h
  | .setAttentionMask h => some h
  | .setCreditThreshold h => some h
  | .setReserveThreshold h => some h
  | .setTurnWindow h => some h
  | .setVoteWindow h => some h
  | .setPrecedence h => some h
  | .setQuotaCeiling h => some h
  | .get h _ => some h
  | .voteClear h => some h
  | .ack h => some h
  | .fetchNotice h _ => some h
  | .fetchNoticeCommit h => some h
  | .readCounter h _ => some h
  | .readCounterCommit h => some h
  | .openChannel h => some h
  | .closeChannel h => some h
  | .findChannel h _ => some h
  | .subscribe h => some h
  | .unsubscribe h => some h
  | .suspend h => some h
  | .resume h => some h
  | .begin h => some h
  | .put h => some h
  | .sealMsg h => some h
  | .abort h => some h
  | .take h _ => some h
  | .takeCommit h => some h
  | .skip h => some h
  | .leaseExpiry h => some h
  | .headerByteArrival h _ => some h
  | .payloadByteArrival h _ => some h
  | .responseByteArrival h => some h
  | .selectSeen h => some h
  | .getCommit h => some h
  | .findChannelCommit h => some h
  | .setReadOnlyValue h => some h

end Sys2Proof
end

