-- ==== Sys2Proof/Tests/Slice0.lean ====
section
/-! SUPPORT. Small tests of single commands against the manual's worked examples and tables, the smoke tests of
WellFormed.lean, and a witness for every statement that has hypotheses. -/

namespace Sys2Proof.Tests

open Sys2Proof Sys2Proof.Machine

-- One theorem after another: each of these tests occupies the kernel, and a thread for each would exhaust memory.
set_option Elab.async false

/-! ## States to test on -/

/-- Header bytes 0 to 10 of a request (R183), with serial 7. -/
def header (code : Byte) (key a b c : Word16) (d : Byte) : List Byte :=
  [code, 7] ++ bytes16 key ++ bytes16 a ++ bytes16 b ++ bytes16 c ++ [d]

/-- The request those bytes give. -/
def request (code : Byte) (key a b c : Word16) (d : Byte) : Request :=
  { code := code, serial := 7, key := key, a := a, b := b, c := c, d := d }

/-- Link `h` with 11 header bytes received. -/
def asking (h : HostId) (bs : List Byte) (s : State) : State :=
  s.setLink h { Link.reset with sel := true, phase := .header, header := bs, crc := crc8 bs }

/-- Link `h` with a complete transaction that awaits its deselect. -/
def carrying (h : HostId) (bs : List Byte) (s : State) (payload : List Byte := []) : State :=
  s.setLink h { Link.reset with sel := true, phase := .payloadIn, header := bs ++ [crc8 bs], payload := payload }

/-- Link `h` with a complete read, all of its response shifted out. -/
def reading (h : HostId) (bs : List Byte) (p : PendingResult) (s : State) : State :=
  s.setLink h { Link.reset with
    sel := true, phase := .responseOut, header := bs ++ [crc8 bs], pendingResult := some p }

/-- What a command leaves, where it answers a next state. -/
def after {α : Type} (c : Instr) (s : State) (f : State → α) : Option α :=
  match exec c s with
  | .next t => some (f t)
  | _ => none

/-- Four JOINED hosts with quota 40. -/
def joined : State :=
  { State.reset with
    members := Vector.replicate 4 { Member.reset with state := .joined }
    accounts := Vector.replicate 4 { quota := 40, charge := 0, exhausted := false } }

/-- The channel and the two subscriptions of the worked sequence of 11.3. -/
def channelled : State :=
  { joined with
    channels := joined.channels.write 0
      { Channel.closed with
        state := .opened, key := 0x0110, creator := some 0, mode := .whole, maxLength := 128
        publishSet := HostSet.insert noHosts 0, subscriberCount := 2 }
    subs := (joined.subs.write 0
      { Subscription.free with state := .active, owner := 1, limit := 4, policy := .dropNew }).write 1
      { Subscription.free with
        state := .active, owner := 2, matchBits := 0x0020, mask := 0x00F0, limit := 2, policy := .dropOldest } }

/-- The message of 11.3 after event 3: 100 bytes in cells 0 and 1, still FILLING. -/
def filling : State :=
  { channelled with
    channels := channelled.channels.update 0 (fun c => { c with nextSequence := 1, liveCount := 1 })
    messages := channelled.messages.write 0
      { Message.vacant with
        state := .filling, key := 0x0110, tag := 0x0025, mode := .whole, declared := some 100, length := 100
        head := some 0, tail := some 1, cellCount := 2, refCount := 1 }
    cells := (channelled.cells.write 0 { next := some 1, used := 64 }).write 1 { next := none, used := 36 }
    freeList := (List.finRange 512).drop 2
    accounts := channelled.accounts.write 0 { quota := 40, charge := 2, exhausted := false } }

/-- The message of 11.3 after event 4: SEALED, with an entry in each reader's queue. -/
def delivered : State :=
  { filling with
    messages := filling.messages.update 0 (fun m => { m with state := .sealed, refCount := 2 })
    entries := (filling.entries.write 0 { Entry.free with inUse := true, subscription := some 0 }).write 1
      { Entry.free with inUse := true, subscription := some 1 }
    queues := (filling.queues.write 1 [0]).write 2 [1]
    subs := (filling.subs.update 0 (fun x => { x with queued := 1 })).update 1 (fun x => { x with queued := 1 }) }

/-- The last reader of 11.3, before event 9: the entry of host 2 alone is left, read up to offset 64. -/
def lastReader : State :=
  { delivered with
    messages := delivered.messages.update 0 (fun m => { m with refCount := 1 })
    entries := (delivered.entries.write 0 Entry.free).update 1 (fun e => { e with offset := 64, state := .opened })
    queues := delivered.queues.write 1 [] }

/-- The same state rationed, with host 1 filling nothing and the turn as 11.6 has it at 102. -/
def contended : State :=
  { joined with
    now := 102, rationed := true, freeList := (List.finRange 512).take 30, turn := .inUse 1 120
    claimants := (HostSet.insert noHosts 2).insert 3, lastServed := some 1 }

/-! ## Smoke tests of the checks -/

theorem test_link_4_refused : hostOf? 4 = none := by decide

theorem test_link_3_accepted : hostOf? 3 = some 3 := by decide

theorem test_byte_256_refused : byteOf? 256 = none := by decide

theorem test_byte_255_accepted : byteOf? 255 = some 0xFF := by decide

theorem test_no_word_spells_a_command : decodeTableWord 8 0x11 = none := rfl

theorem test_command_link : (Instr.put 2).link = some 2 ∧ Instr.turnExpiry.link = none := ⟨rfl, rfl⟩

/-! ## The check and the header (R132, R183) -/

/-- R132's first example: eleven bytes of 0. -/
theorem test_crc_zeros : crc8 (List.replicate 11 0) = 0x00 := by decide +kernel

/-- R132's second example: ten bytes of 0, then 0x01. -/
theorem test_crc_one : crc8 (List.replicate 10 0 ++ [0x01]) = 0x07 := by decide +kernel

theorem test_header_fields :
    Request.ofHeader [0x42, 0x05, 0x01, 0x10, 0x00, 0x40, 0x12, 0x34, 0xAB, 0xCD, 0x01] =
      { code := 0x42, serial := 5, key := 0x0110, a := 0x0040, b := 0x1234, c := 0xABCD, d := 1 } := by
  decide +kernel

theorem test_take_code : Kind.ofCode 0x51 = some .take := by decide

theorem test_unknown_code : Kind.ofCode 0x50 = none := by decide

/-! ## Reset, time and the framer -/

theorem test_deviceReset_status :
    after .deviceReset delivered (fun t => t.statusBlock 1) =
      some [0x00, 0x20, 0, 0, 0, 0, 0x02, 0x00, 0, 0, 0, 0] := by decide +kernel

theorem test_resetRelease_time :
    after .resetRelease { State.reset with now := 9, resetAsserted := true } (fun t => (t.now, t.resetAsserted)) =
      some (0, false) := by decide +kernel

/-- R188: the time does not pass a deadline whose expiry has not been taken. -/
theorem test_timeStep :
    after .millisecondTimeStep joined State.now = some 1
      ∧ after .millisecondTimeStep { contended with now := 119 } State.now = some 120
      ∧ after .millisecondTimeStep { contended with now := 120 } State.now = none := by decide +kernel

theorem test_timeStep_under_reset :
    after .millisecondTimeStep { joined with resetAsserted := true } State.now = some 0 := by decide +kernel

/-- The status block of a JOINED host with a delivery waiting: JOINED is 1, credit 40, free cells 510. -/
theorem test_selAsserted_samples :
    after (.selAsserted 1) delivered (fun t => ((t.links.read 1).statusCopy, (t.links.read 1).phase)) =
      some ([0x01, 0x20, 1, 0, 0, 40, 0x01, 0xFE, 0, 0, 0, 0], .header) := by decide +kernel

theorem test_selectSeen :
    after (.selectSeen 0) (State.reset.setLink 0 { Link.reset with sel := true, selectSeen := false })
      (fun t => ((t.links.read 0).sel, (t.links.read 0).selectSeen)) = some (false, true) := by decide +kernel

theorem test_headerByte :
    after (.headerByteArrival 0 0x07) (asking 0 [0x12] joined) (fun t => (t.links.read 0).header) =
      some [0x12, 0x07] := by decide +kernel

theorem test_goodHeader_expects_put_payload :
    after (.headerGoodCheck 0 (crc8 (header 0x42 0 64 0 0 0))) (asking 0 (header 0x42 0 64 0 0 0) joined)
      (fun t => ((t.links.read 0).phase, (t.links.read 0).remaining)) = some (.payloadIn, 64) := by decide +kernel

theorem test_badHeader_discards :
    after (.headerBadCheck 0 (crc8 (header 0x12 0 0 0 0 0) + 1)) (asking 0 (header 0x12 0 0 0 0 0) joined)
      (fun t => ((t.links.read 0).phase, (t.links.read 0).lastFault, (t.desks.read 0).counters.linkErrors)) =
      some (.discard, .check, 1) := by decide +kernel

theorem test_payloadByte :
    after (.payloadByteArrival 0 0xAA)
      (joined.setLink 0 { Link.reset with sel := true, phase := .payloadIn, remaining := 2, payload := [0x55] })
      (fun t => ((t.links.read 0).payload, (t.links.read 0).remaining)) = some ([0x55, 0xAA], 1) := by decide +kernel

theorem test_responseByte :
    after (.responseByteArrival 0) (joined.setLink 0 { Link.reset with sel := true, phase := .responseOut, remaining := 4 })
      (fun t => (t.links.read 0).remaining) = some 3 := by decide +kernel

theorem test_deselectInDiscard :
    after (.deselectInDiscard 0) (joined.setLink 0 { Link.reset with sel := true, phase := .discard })
      (fun t => ((t.links.read 0).phase, (t.links.read 0).lastResult)) = some (.idle, .noRequest) := by decide +kernel

theorem test_transactionVoid_in_header :
    after (.transactionVoid 0) (asking 0 [0x11, 0x09] joined)
      (fun t => ((t.links.read 0).lastResult, (t.links.read 0).lastSerial, (t.links.read 0).lastFault)) =
      some (.void, 9, .framing) := by decide +kernel

theorem test_unknownRequest :
    after (.unknownRequest 0) (carrying 0 (header 0x99 0 0 0 0 0) State.reset)
      (fun t => ((t.links.read 0).lastResult, (t.links.read 0).lastSerial)) = some (.badRequest, 7) := by decide +kernel

/-! ## Membership -/

theorem test_join_grant :
    after (.join 0) (carrying 0 (header 0x11 0 0 300 2 0) State.reset)
      (fun t => ((t.members.read 0).state, (t.accounts.read 0).quota, (t.links.read 0).lastValue)) =
      some (.joined, 256, 256) := by decide +kernel

theorem test_join_lease_9_refused :
    after (.join 0) (carrying 0 (header 0x11 0 9 300 2 0) State.reset)
      (fun t => ((t.members.read 0).state, (t.links.read 0).lastResult)) = some (.detached, .badRequest) := by
  decide +kernel

theorem test_leave_removes_queue_and_subscription :
    after (.leave 1) (carrying 1 (header 0x12 0 0 0 0 0) delivered)
      (fun t => ((t.members.read 1).state, t.queues.read 1, (t.subs.read 0).state, (t.messages.read 0).refCount,
        (t.desks.read 0).notices)) = some (.detached, [], .free, 1, [.hostLeft 1]) := by decide +kernel

/-- 11.7, event 4: the lapse completes the vote, and HOST_LAPSED stands behind EXCHANGE_CLEARED. -/
theorem test_leaseExpiry_completes_vote :
    after (.leaseExpiry 3)
      { delivered with
        now := 1050
        members := delivered.members.update 3 (fun m => { m with leasePeriod := 100, leaseDeadline := some 1050 })
        vote := some { voters := ((HostSet.insert noHosts 0).insert 1).insert 2, opener := 0, deadline := 1500 } }
      (fun t => ((t.members.read 3).state, (t.desks.read 0).notices, t.vote, t.freeCount)) =
      some (.lapsed, [.exchangeCleared, .hostLapsed 3], none, 512) := by decide +kernel

theorem test_setLeasePeriod :
    after (.setLeasePeriod 0) (carrying 0 (header 0x13 0 1 100 0 0) { joined with now := 5 })
      (fun t => (t.members.read 0).leaseDeadline) = some (some 105) := by decide +kernel

theorem test_setAttentionMask :
    after (.setAttentionMask 0) (carrying 0 (header 0x13 0 2 0b00101 0 0) joined)
      (fun t => (t.members.read 0).mask) =
      some { delivery := true, notice := false, credit := true, turn := false, linkError := false } := by
  decide +kernel

theorem test_setCreditThreshold_65_refused :
    after (.setCreditThreshold 0) (carrying 0 (header 0x13 0 3 65 0 0) joined)
      (fun t => ((t.members.read 0).creditThreshold, (t.links.read 0).lastResult)) = some (1, .badRequest) := by
  decide +kernel

theorem test_setReserveThreshold :
    after (.setReserveThreshold 0) (carrying 0 (header 0x13 0 0x10 256 0 0) joined)
      (fun t => (t.params.reserveThreshold, t.rationed)) = some (256, false) := by decide +kernel

theorem test_setTurnWindow_locked :
    after (.setTurnWindow 0) (carrying 0 (header 0x13 0 0x11 30 0 0) channelled)
      (fun t => (t.params.turnWindow, (t.links.read 0).lastResult)) = some (20, .busy) := by decide +kernel

theorem test_setVoteWindow :
    after (.setVoteWindow 0) (carrying 0 (header 0x13 0 0x12 5000 0 0) joined) (fun t => t.params.voteWindow) =
      some 5000 := by decide +kernel

theorem test_setPrecedence :
    after (.setPrecedence 0) (carrying 0 (header 0x13 0 0x13 1 0 0) joined) (fun t => t.params.precedence) =
      some true := by decide +kernel

theorem test_setQuotaCeiling :
    after (.setQuotaCeiling 0) (carrying 0 (header 0x13 0 0x14 512 0 0) joined) (fun t => t.params.quotaCeiling) =
      some 512 := by decide +kernel

theorem test_setReadOnlyValue :
    after (.setReadOnlyValue 0) (carrying 0 (header 0x13 0 0x20 1 0 0) joined)
      (fun t => (t.links.read 0).lastResult) = some .badRequest := by decide +kernel

/-- GET of the host states (R187): two bits a host, host 0 lowest. -/
theorem test_get_hostStates :
    after (.get 0 (crc8 (header 0x14 0 0x25 0 0 0))) (asking 0 (header 0x14 0 0x25 0 0 0) joined)
      (fun t => (t.links.read 0).pendingResult.map PendingResult.response) = some (some [0, 0, 0, 0x55]) := by
  decide +kernel

theorem test_getCommit :
    after (.getCommit 0)
      (reading 0 (header 0x14 0 0x27 0 0 0)
        { response := [0, 0, 0, 1], result := .ok, value := 0, commit := .nothing } State.reset)
      (fun t => ((t.links.read 0).lastResult, (t.links.read 0).phase)) = some (.ok, .idle) := by decide +kernel

/-- 11.7, event 2: a second vote of three hosts leaves one voter needed. -/
theorem test_voteClear_counts :
    after (.voteClear 1) (carrying 1 (header 0x15 0 0 0 0 0)
      { joined with
        members := joined.members.write 3 Member.reset
        vote := some { voters := HostSet.insert noHosts 0, opener := 0, deadline := 1500 } })
      (fun t => ((t.links.read 1).lastValue, t.vote.isSome)) = some (1, true) := by decide +kernel

theorem test_voteDeadline :
    after .voteDeadline
      { joined with now := 500, vote := some { voters := HostSet.insert noHosts 0, opener := 0, deadline := 500 } }
      (fun t => (t.vote, (t.desks.read 3).notices)) = some (none, [.voteFailed]) := by decide +kernel

/-! ## Notices and counters -/

theorem test_ack_queue_relatches :
    after (.ack 1) (carrying 1 (header 0x18 0 0x21 0 0 0) delivered)
      (fun t => ((t.desks.read 1).latches.toNat, (t.links.read 1).lastValue)) = some (1, 1) := by decide +kernel

/-- A HOST_LEFT record with 3 lost notices (R186): kind 3, the subject flag, and the subject. -/
theorem test_fetchNotice_record :
    after (.fetchNotice 0 (crc8 (header 0x19 0 0 0 0 0)))
      (asking 0 (header 0x19 0 0 0 0 0) (joined.setDesk 0 { Desk.ready with notices := [.hostLeft 2], lost := 3 }))
      (fun t => (t.links.read 0).pendingResult.map PendingResult.response) =
      some (some [3, 1, 3, 2, 0, 0, 0, 0, 0, 0, 0, 0]) := by decide +kernel

theorem test_fetchNoticeCommit :
    after (.fetchNoticeCommit 0)
      (reading 0 (header 0x19 0 0 0 0 0)
        { response := [], result := .ok, value := 0, commit := .fetchNotice (some (.hostLeft 2)) 3 }
        (joined.setDesk 0 { Desk.ready with notices := [.hostLeft 2, .voteFailed], lost := 4 }))
      (fun t => ((t.desks.read 0).notices, (t.desks.read 0).lost)) = some ([.voteFailed], 1) := by decide +kernel

theorem test_readCounter_low :
    after (.readCounter 0 (crc8 (header 0x1A 0 2 0 0 0)))
      (asking 0 (header 0x1A 0 2 0 0 0)
        (joined.setDesk 0 { Desk.ready with counters := { Counters.zero with bytes := 0x0123456789 } }))
      (fun t => (t.links.read 0).pendingResult.map PendingResult.response) =
      some (some [0x23, 0x45, 0x67, 0x89]) := by decide +kernel

theorem test_readCounterCommit_low :
    after (.readCounterCommit 0)
      (reading 0 (header 0x1A 0 2 0 0 0)
        { response := [], result := .ok, value := 0, commit := .readCounter .bytesLow 0x0123456789 }
        (joined.setDesk 0 { Desk.ready with counters := { Counters.zero with bytes := 0x0123456799 } }))
      (fun t => ((t.desks.read 0).counters.bytes, (t.desks.read 0).counters.highLatch)) = some (0x10, 0x01) := by
  decide +kernel

/-! ## Channels and subscriptions -/

theorem test_openChannel_lowest :
    after (.openChannel 3) (carrying 3 (header 0x21 0x0330 512 0b1000 2 0) channelled)
      (fun t => ((t.channels.read 1).state, (t.channels.read 1).mode, (t.channels.read 1).creator,
        (t.links.read 3).lastValue)) = some (.opened, .streaming, some 3, 1) := by decide +kernel

theorem test_openChannel_exists :
    after (.openChannel 3) (carrying 3 (header 0x21 0x0110 512 0 1 0) channelled)
      (fun t => (t.links.read 3).lastResult) = some .channelExists := by decide +kernel

/-- 11.5, event 1: a message behind a reader makes the channel DRAINING, and its subscriptions are freed. -/
theorem test_closeChannel_drains :
    after (.closeChannel 0) (carrying 0 (header 0x22 0x0110 0 0 0 0) delivered)
      (fun t => ((t.channels.read 0).state, (t.links.read 0).lastValue, (t.subs.read 0).state,
        (t.entries.read 0).subscription, (t.desks.read 1).notices)) =
      some (.draining, 1, .free, none, [.channelClosed 0x0110 0]) := by decide +kernel

theorem test_closeChannel_not_permitted :
    after (.closeChannel 2) (carrying 2 (header 0x22 0x0110 0 0 0 0) delivered)
      (fun t => ((t.channels.read 0).state, (t.links.read 2).lastResult)) = some (.opened, .notPermitted) := by
  decide +kernel

/-- The channel information of C0 in 11.3 (R187): OPEN, WHOLE, creator 0 present. -/
theorem test_findChannel_record :
    after (.findChannel 1 (crc8 (header 0x23 0x0110 0 0 0 0))) (asking 1 (header 0x23 0x0110 0 0 0 0) channelled)
      (fun t => (t.links.read 1).pendingResult.map PendingResult.response) =
      some (some [0x15, 0, 0, 128, 2, 0, 0, 0]) := by decide +kernel

theorem test_findChannelCommit :
    after (.findChannelCommit 1)
      (reading 1 (header 0x23 0x0110 0 0 0 0)
        { response := [], result := .ok, value := 0, commit := .nothing } channelled)
      (fun t => (t.links.read 1).lastResult) = some .ok := by decide +kernel

theorem test_subscribe_lowest :
    after (.subscribe 3) (carrying 3 (header 0x31 0x0110 0x0020 0x00F0 64 0b110) channelled)
      (fun t => (t.subs.read 2, (t.channels.read 0).subscriberCount)) =
      some ({ state := .active, owner := 3, channel := 0, matchBits := 0x0020, mask := 0x00F0, limit := 64,
              policy := .dropOldest, own := true, queued := 0 }, 3) := by decide +kernel

theorem test_unsubscribe_purges :
    after (.unsubscribe 1) (carrying 1 (header 0x32 0 0 0 0 1) delivered)
      (fun t => (t.queues.read 1, (t.links.read 1).lastValue, (t.subs.read 0).state, (t.messages.read 0).refCount)) =
      some ([], 1, .free, 1) := by decide +kernel

theorem test_suspend :
    after (.suspend 1) (carrying 1 (header 0x33 0 0 0 0 0) delivered)
      (fun t => ((t.subs.read 0).state, (t.links.read 1).lastValue)) = some (.suspended, 1) := by decide +kernel

theorem test_resume_of_another :
    after (.resume 1) (carrying 1 (header 0x34 0 1 0 0 0) delivered) (fun t => (t.links.read 1).lastResult) =
      some .badIndex := by decide +kernel

/-! ## Publishing and taking -/

/-- 11.3, event 1. -/
theorem test_begin :
    after (.begin 0) (carrying 0 (header 0x41 0x0110 0x0025 100 0 1) channelled)
      (fun t => ((t.messages.read 0).state, (t.messages.read 0).declared, (t.messages.read 0).refCount,
        (t.channels.read 0).nextSequence)) = some (.filling, some 100, 1, 1) := by decide +kernel

/-- 11.6, at 101: a BEGIN while another host holds the turn waits as a claimant. -/
theorem test_begin_waits :
    after (.begin 0) (carrying 0 (header 0x41 0x0110 0 0 0 0) { channelled with rationed := true, turn := .inUse 1 120 })
      (fun t => (t.claimants.read 0, (t.links.read 0).lastResult)) = some (true, .wait) := by decide +kernel

/-- 11.3, event 3, one byte short: the last cell holds 36 bytes, and one more makes 37 of its own. -/
theorem test_put_fills_tail :
    after (.put 0) (carrying 0 (header 0x42 0 1 0 0 0)
      { filling with messages := filling.messages.update 0 (fun m => { m with declared := none }) } [0xAB])
      (fun t => ((t.messages.read 0).length, (t.cells.read 1).used, t.readBytes 0 100 1, t.freeCount)) =
      some (101, 37, [0xAB], 510) := by decide +kernel

theorem test_put_above_declared :
    after (.put 0) (carrying 0 (header 0x42 0 1 0 0 0) filling [0xAB])
      (fun t => ((t.links.read 0).lastResult, (t.links.read 0).lastValue)) = some (.length, 100) := by decide +kernel

/-- 11.3, event 4. -/
theorem test_seal :
    after (.sealMsg 0) (carrying 0 (header 0x43 0 0 0 0 0) filling)
      (fun t => ((t.links.read 0).lastValue, (t.messages.read 0).refCount, t.queues.read 1, t.queues.read 2,
        (t.desks.read 0).counters.bytes)) = some (2, 2, [0], [1], 100) := by decide +kernel

/-- 11.6, at 110: the turn ends at SEAL, and host 2 is next after host 1. -/
theorem test_seal_passes_turn :
    after (.sealMsg 1) (carrying 1 (header 0x43 0 0 0 0 0)
      { contended with
        now := 110
        messages := contended.messages.write 0
          { Message.vacant with state := .filling, publisher := 1, mode := .whole, refCount := 1 } })
      (fun t => (t.turn, t.claimants.read 2, (t.desks.read 2).latches.turn)) =
      some (.granted 2 130, false, true) := by decide +kernel

theorem test_abort_frees :
    after (.abort 0) (carrying 0 (header 0x44 0 0 0 0 0) filling)
      (fun t => ((t.messages.read 0).state, t.freeList.drop 510, (t.accounts.read 0).charge,
        (t.desks.read 0).counters.aborted)) = some (.vacant, [0, 1], 0, 1) := by decide +kernel

/-- 11.3, event 6: DATA, 64 bytes, FIRST; the entry is OPENED. -/
theorem test_take_header :
    after (.take 2 (crc8 (header 0x51 0 64 0 0 0))) (asking 2 (header 0x51 0 64 0 0 0) delivered)
      (fun t => ((t.links.read 2).pendingResult.map (fun p => p.response.take 12), (t.entries.read 1).state)) =
      some (some [0x0A, 64, 0x01, 0x10, 0, 0, 0, 0x25, 0, 0, 0, 100], .opened) := by decide +kernel

/-- 11.3, event 9: LAST frees the message, and its cells go to the tail of the free list. -/
theorem test_takeCommit_last :
    after (.takeCommit 2)
      (reading 2 (header 0x51 0 64 0 0 0)
        { response := [], result := .ok, value := 36, commit := .take 1 .data 36 true false } lastReader)
      (fun t => ((t.messages.read 0).state, t.freeList.drop 510, (t.accounts.read 0).charge,
        (t.channels.read 0).liveCount, (t.desks.read 2).counters.taken)) = some (.vacant, [0, 1], 0, 0, 1) := by
  decide +kernel

theorem test_skip :
    after (.skip 1) (carrying 1 (header 0x52 0 0 0 0 0) delivered)
      (fun t => (t.queues.read 1, (t.subs.read 0).queued, (t.links.read 1).lastResult)) = some ([], 0, .ok) := by
  decide +kernel

theorem test_skip_empty :
    after (.skip 0) (carrying 0 (header 0x52 0 0 0 0 0) delivered) (fun t => (t.links.read 0).lastResult) =
      some .empty := by decide +kernel

/-- 11.6, at 130: TURN_MISSED to host 2, and the turn passes to host 3. -/
theorem test_turnExpiry_passes :
    after .turnExpiry
      { contended with now := 130, turn := .granted 2 130, claimants := HostSet.insert noHosts 3 }
      (fun t => (t.turn, (t.desks.read 2).notices, (t.desks.read 3).latches.turn)) =
      some (.granted 3 150, [.turnMissed], true) := by decide +kernel

/-! ## Witnesses

Each theorem shows states and operands that meet the hypotheses of the statement it is named for, clause by clause and at
the boundary values of a clause's range. -/

theorem next_of_after {c : Instr} {s : State} (h : (after c s (fun _ => ())).isSome = true) :
    ∃ t, exec c s = .next t := by
  unfold after at h
  split at h
  · exact ⟨_, ‹_›⟩
  · cases h

/-- A link in a given state, with SEL asserted. -/
def busy (p : Phase) (remaining : Nat := 0) : State :=
  joined.setLink 0 { Link.reset with sel := true, phase := p, remaining := remaining, selectSeen := false }

/-- A state with commands waiting, hosts JOINED. -/
def ready : State := { joined with pending := [.selAsserted 0, .millisecondTimeStep] }

theorem witness_StepTakesFrontCommand :
    ready.pending = .selAsserted 0 :: [.millisecondTimeStep] ∧ State.reset.pending = [] := ⟨rfl, rfl⟩

theorem witness_ExecKeepsQueueAndTime :
    (∃ t, exec (.leave 1) (carrying 1 (header 0x12 0 0 0 0 0) delivered) = .next t)
      ∧ (Instr.leave 1 ≠ .millisecondTimeStep ∧ Instr.leave 1 ≠ .resetRelease) :=
  ⟨next_of_after (by decide +kernel), by decide⟩

theorem witness_SlowRegistersHaveFewWriters :
    (∃ t, exec (.begin 0) (carrying 0 (header 0x41 0x0110 0x0025 100 0 1) channelled) = .next t)
      ∧ Instr.begin 0 ≠ .deviceReset ∧ Instr.begin 0 ≠ .join 0 ∧ Instr.begin 0 ≠ .transactionVoid 0 :=
  ⟨next_of_after (by decide +kernel), by decide⟩

theorem witness_ResetReleaseAndTime :
    ({ State.reset with resetAsserted := true } : State).resetAsserted = true ∧ joined.resetAsserted = false
      ∧ (let s := { contended with now := 119, vote := some { voters := noHosts, opener := 0, deadline := 120 } }
        s.resetAsserted = false ∧ (∀ h, (s.members.read h).leaseDeadline = none) ∧ s.turn.deadline = some 120
          ∧ s.vote.map Vote.deadline = some 120 ∧ s.now < 120)
      ∧ (let s := { contended with
          now := 120, vote := some { voters := noHosts, opener := 0, deadline := 120 }
          members := contended.members.update 3 (fun m => { m with leaseDeadline := some 120 }) }
        s.resetAsserted = false ∧ s.isJoined 3 = true ∧ (s.members.read 3).leaseDeadline = some 120
          ∧ s.turn.deadline = some 120 ∧ s.vote.map Vote.deadline = some 120 ∧ 120 ≤ s.now) := by
  decide +kernel

theorem witness_SelectsBeginTransactions :
    ((joined.links.read 0).sel = false ∧ (joined.links.read 0).phase = .idle ∧ (joined.links.read 0).selectSeen = true
        ∧ joined.resetAsserted = false)
      ∧ (let s := { joined with resetAsserted := true }
        (s.links.read 0).sel = false ∧ s.resetAsserted = true)
      ∧ ((busy .idle).links.read 0).sel = true ∧ ((busy .idle).links.read 0).phase = .idle
      ∧ ((busy .header).links.read 0).sel = true := by decide +kernel

theorem witness_StatusBlockBytes :
    (delivered.desks.read 1).notices.length < 256 ∧ delivered.credit 1 < 65536
      ∧ delivered.freeList.length < 65536 := by decide +kernel

/-- A TAKE of 1 byte answered with 13 response bytes, at its first and at its last. -/
def takeResponse : PendingResult :=
  { response := List.replicate 12 0 ++ [0xAB], result := .ok, value := 1, commit := .take 0 .data 1 false true }

theorem witness_DataOutByPhase :
    (joined.links.read 0).sel = false
      ∧ (let l := (asking 0 [] delivered).links.read 0
        l.sel = true ∧ l.phase = .header ∧ l.statusCopy[l.header.length]? = some 0)
      ∧ (let l := (asking 0 (header 0x51 0 1 0 0 0) delivered).links.read 0
        l.statusCopy[l.header.length]? = some 0)
      ∧ ((busy .payloadIn).links.read 0).phase = .payloadIn ∧ ((busy .discard).links.read 0).phase = .discard
      ∧ (((busy .responseOut 0).links.read 0).phase = .responseOut
        ∧ ((busy .responseOut 0).links.read 0).remaining = 0)
      ∧ ∀ n ∈ [13, 1],
        let l : Link := { Link.reset with sel := true, phase := .responseOut, remaining := n, pendingResult := some takeResponse }
        l.pendingResult = some takeResponse ∧ takeResponse.response[13 - n]? = some (if n = 1 then 0xAB else 0)
          ∧ l.remaining + (13 - n) = takeResponse.response.length := by decide +kernel

theorem witness_ByteArrivalsAdvanceFramer :
    (((asking 0 ((header 0x51 0 1 0 0 0).take 10) joined).links.read 0).phase = .header
        ∧ ((asking 0 ((header 0x51 0 1 0 0 0).take 10) joined).links.read 0).header.length = 10)
      ∧ (∀ n ∈ [0, 1],
        ((busy .payloadIn n).links.read 0).phase = .payloadIn ∧ ((busy .payloadIn n).links.read 0).remaining = n
          ∧ ((busy .responseOut n).links.read 0).phase = .responseOut
          ∧ ((busy .responseOut n).links.read 0).remaining = n)
      ∧ (∀ n ∈ [10, 11],
        let l := (asking 0 ((header 0x51 0 1 0 0 0).take n) joined).links.read 0
        l.phase = .header ∧ l.header.length = n ∧ l.crc = crc8 ((header 0x51 0 1 0 0 0).take n) ∧ l.crc ≠ l.crc + 1)
      ∧ ((busy .discard).links.read 0).phase = .discard ∧ (joined.links.read 0).phase = .idle := by decide +kernel

theorem asking_meetsCheck {h : HostId} {bs : List Byte} {s : State} (hl : bs.length = 11) :
    (asking h bs s).meetsCheck h (crc8 bs) (Request.ofHeader bs) := by
  simp [State.meetsCheck, asking, State.setLink, hl, Link.request]

theorem header_request (code : Byte) (key a b c : Word16) (d : Byte) :
    (header code key a b c d).length = 11 ∧ Request.ofHeader (header code key a b c d) = request code key a b c d := by
  refine ⟨rfl, ?_⟩
  have w : ∀ x : Word16, wordOf (x.extractLsb' 8 8) (x.extractLsb' 0 8) = x := by
    intro x
    apply BitVec.eq_of_getLsbD_eq
    intro i hi
    simp only [wordOf, BitVec.getLsbD_append, BitVec.getLsbD_extractLsb']
    by_cases h8 : i < 8
    · simp [h8]
    · simp [h8, show i - 8 < 8 by omega, show 8 + (i - 8) = i by omega]
  simp [Request.ofHeader, header, bytes16, request, w]

/-- Any request's header, received on an IDLE link of any state, meets its check. -/
theorem asking_meets (h : HostId) (code : Byte) (key a b c : Word16) (d : Byte) (s : State) :
    (asking h (header code key a b c d) s).meetsCheck h (crc8 (header code key a b c d)) (request code key a b c d) := by
  have hr := header_request code key a b c d
  simpa only [hr.2] using asking_meetsCheck (h := h) (s := s) hr.1

/-- Any request without a payload still to come is carried by a link put into its last state. -/
theorem carrying_carries {h : HostId} {code : Byte} {key a b c : Word16} {d : Byte} {s : State} {p : List Byte} :
    (carrying h (header code key a b c d) s p).carriesRequest h (request code key a b c d) := by
  have hr := header_request code key a b c d
  have ho : Request.ofHeader (header code key a b c d ++ [crc8 (header code key a b c d)]) =
      Request.ofHeader (header code key a b c d) := rfl
  simp [State.carriesRequest, carrying, State.setLink, Link.reset, Link.request, ho, hr.2]

theorem reading_carries {h : HostId} {code : Byte} {key a b c : Word16} {d : Byte} {s : State} {p : PendingResult}
    {k : Kind} (hk : Kind.ofCode code = some k) :
    (reading h (header code key a b c d) p s).carriesRead h k p := by
  have hr := header_request code key a b c d
  have ho : Request.ofHeader (header code key a b c d ++ [crc8 (header code key a b c d)]) =
      Request.ofHeader (header code key a b c d) := rfl
  simp [State.carriesRead, reading, State.setLink, Link.reset, Link.request, ho, hr.2, Request.kind, request, hk]

theorem witness_GoodHeaderRenewsLease :
    ((asking 0 (header 0x42 0 64 0 0 0) joined).meetsCheck 0 (crc8 (header 0x42 0 64 0 0 0)) (request 0x42 0 64 0 0 0)
        ∧ (request 0x42 0 64 0 0 0).kind = some .put ∧ Kind.put.isRead = false)
      ∧ ∀ code ∈ ([0x14, 0x19, 0x1A, 0x23, 0x51] : List Byte),
        (asking 0 (header code 0 1 0 0 0) joined).meetsCheck 0 (crc8 (header code 0 1 0 0 0)) (request code 0 1 0 0 0) :=
  ⟨⟨asking_meets .., by decide, rfl⟩, fun _ _ => asking_meets ..⟩

theorem witness_BadHeaderDiscards :
    let s := asking 0 (header 0x42 0 64 0 0 0) joined
    (s.links.read 0).phase = .header ∧ (s.links.read 0).header.length = 11
      ∧ (s.links.read 0).crc ≠ crc8 (header 0x42 0 64 0 0 0) + 1 := by decide +kernel

theorem witness_TransactionVoidUndoesRead :
    ((asking 0 [] joined).links.read 0).phase = .header
      ∧ (((busy .payloadIn 1).links.read 0).phase = .payloadIn ∧ ((busy .payloadIn 1).links.read 0).remaining ≠ 0)
      ∧ ((busy .responseOut 1).links.read 0).phase = .responseOut
      ∧ ((busy .responseOut 1).links.read 0).remaining ≠ 0 := by decide +kernel

theorem witness_DeselectWithoutRequest :
    Instr.take 0 0 ∉ deselects 0 ∧ Instr.takeCommit 0 ∈ deselects 0 ∧ ((busy .discard).links.read 0).phase = .discard
      ∧ (((busy .idle).links.read 0).phase = .idle ∧ ((busy .idle).links.read 0).sel = true)
      ∧ ((joined.links.read 0).phase = .idle ∧ (joined.links.read 0).sel = false)
      ∧ ((busy .header).links.read 0).phase = .header ∧ Instr.takeCommit 0 ≠ .transactionVoid 0 := by decide +kernel

theorem witness_RefusalsWithoutAnOwner :
    ((carrying 0 (header 0x99 0 0 0 0 0) State.reset).carriesRequest 0 (request 0x99 0 0 0 0 0)
        ∧ (request 0x99 0 0 0 0 0).kind = none)
      ∧ ((carrying 0 (header 0x13 0 0x27 0 0 0) joined).carriesRequest 0 (request 0x13 0 0x27 0 0 0)
        ∧ (request 0x13 0 0x27 0 0 0).kind = some .set
        ∧ ∀ i, Ident.ofCode (request 0x13 0 0x27 0 0 0).a = some i → i.isParameter = false)
      ∧ ∀ x ∈ ([(0x12, .leave), (0x15, .voteClear), (0x21, .openChannel), (0x22, .closeChannel), (0x31, .subscribe),
          (0x32, .unsubscribe), (0x33, .suspend), (0x34, .resume), (0x41, .begin), (0x42, .put), (0x43, .sealMsg),
          (0x44, .abort), (0x52, .skip)] : List (Byte × Kind)),
        (carrying 0 (header x.1 1 1 1 1 1) State.reset).carriesRequest 0 (request x.1 1 1 1 1 1)
          ∧ (carrying 0 (header x.1 1 1 1 1 1) State.reset).isJoined 0 = false
          ∧ (request x.1 1 1 1 1 1).kind = some x.2 := by
  refine ⟨⟨carrying_carries, rfl⟩, ⟨carrying_carries, rfl, fun i hi => ?_⟩, fun x hx => ⟨carrying_carries, ?_, ?_⟩⟩
  · have : i = .interfaceRevision := Option.some.inj (hi.symm.trans (by decide +kernel))
    subst this
    rfl
  · rfl
  · simp only [List.mem_cons, List.not_mem_nil, or_false] at hx
    rcases hx with rfl | rfl | rfl | rfl | rfl | rfl | rfl | rfl | rfl | rfl | rfl | rfl | rfl <;> rfl

/-! ### Read kinds -/

/-- A response with nothing to commit. -/
def plain : PendingResult := { response := [0, 0, 0, 1], result := .ok, value := 0, commit := .nothing }

theorem witness_GetAnswersIdentifier :
    (asking 0 (header 0x14 0 0x27 0 0 0) joined).meetsCheck 0 (crc8 (header 0x14 0 0x27 0 0 0)) (request 0x14 0 0x27 0 0 0)
      ∧ (request 0x14 0 0x27 0 0 0).kind = some .get
      ∧ ((request 0x14 0 0x27 0 0 0).a.toNat, 1) ∈ [(0x27, 1)]
      ∧ (asking 0 (header 0x14 0 0x28 0 0 0) joined).meetsCheck 0 (crc8 (header 0x14 0 0x28 0 0 0))
          (request 0x14 0 0x28 0 0 0)
      ∧ Ident.ofCode (request 0x14 0 0x28 0 0 0).a = none
      ∧ (reading 0 (header 0x14 0 0x27 0 0 0) plain joined).carriesRead 0 .get plain :=
  ⟨asking_meets .., by decide, by decide, asking_meets .., by decide, reading_carries rfl⟩

theorem witness_FetchNoticeAnswersThenRemoves :
    let p (n : Option Notice) : PendingResult := { plain with commit := .fetchNotice n 3 }
    (asking 0 (header 0x19 0 0 0 0 0) joined).meetsCheck 0 (crc8 (header 0x19 0 0 0 0 0)) (request 0x19 0 0 0 0 0)
      ∧ (request 0x19 0 0 0 0 0).kind = some .fetchNotice
      ∧ ∀ n ∈ [none, some .voteFailed],
        (reading 0 (header 0x19 0 0 0 0 0) (p n) joined).carriesRead 0 .fetchNotice (p n)
          ∧ (p n).commit = .fetchNotice n 3 :=
  ⟨asking_meets .., by decide, fun _ _ => ⟨reading_carries rfl, rfl⟩⟩

theorem witness_ReadCounterCapturesThenReduces :
    let p (i : CounterId) : PendingResult := { plain with commit := .readCounter i 9 }
    (∀ a ∈ ([1, 7, 8] : List Word16),
      (asking 0 (header 0x1A 0 a 0 0 0) joined).meetsCheck 0 (crc8 (header 0x1A 0 a 0 0 0)) (request 0x1A 0 a 0 0 0)
        ∧ (request 0x1A 0 a 0 0 0).kind = some .readCounter)
      ∧ CounterId.ofCode 7 = some .linkErrors ∧ CounterId.ofCode 8 = none
      ∧ ∀ i, (reading 0 (header 0x1A 0 1 0 0 0) (p i) joined).carriesRead 0 .readCounter (p i)
        ∧ (p i).commit = .readCounter i 9
        ∧ (let q := { plain with result := .badRequest }
          (reading 0 (header 0x1A 0 8 0 0 0) q joined).carriesRead 0 .readCounter q ∧ q.commit = .nothing) :=
  ⟨fun _ _ => ⟨asking_meets .., rfl⟩, by decide, by decide,
    fun _ => ⟨reading_carries rfl, rfl, reading_carries rfl, rfl⟩⟩

theorem channelTable_joined : channelTableLaw joined := by
  refine ⟨?_, ?_, ?_, ?_⟩ <;> simp [joined, State.reset, Channel.closed]

theorem channelTable_reset : channelTableLaw State.reset := by
  refine ⟨?_, ?_, ?_, ?_⟩ <;> simp [State.reset, Channel.closed]

theorem channelTable_channelled : channelTableLaw channelled := by
  unfold channelTableLaw
  decide +kernel

/-- The links have no part in the Channel Table's order. -/
theorem channelTable_congr {s t : State} (h : t.channels = s.channels) (hs : channelTableLaw s) : channelTableLaw t := by
  unfold channelTableLaw at *
  rwa [h]

theorem channelTable_asking {h : HostId} {bs : List Byte} {s : State} (hs : channelTableLaw s) :
    channelTableLaw (asking h bs s) := channelTable_congr rfl hs

theorem channelTable_carrying {h : HostId} {bs p : List Byte} {s : State} (hs : channelTableLaw s) :
    channelTableLaw (carrying h bs s p) := channelTable_congr rfl hs

theorem witness_FindChannelAnswersSlot :
    (let s := asking 1 (header 0x23 0x0110 0 0 0 0) channelled
     channelTableLaw s ∧ s.meetsCheck 1 (crc8 (header 0x23 0x0110 0 0 0 0)) (request 0x23 0x0110 0 0 0 0)
        ∧ (request 0x23 0x0110 0 0 0 0).kind = some .findChannel ∧ s.isJoined 1 = true ∧ s.holdsKey 0x0110 0 = true)
      ∧ (let s := asking 1 (header 0x23 0 0 0 0 0) channelled
        channelTableLaw s ∧ s.meetsCheck 1 (crc8 (header 0x23 0 0 0 0 0)) (request 0x23 0 0 0 0 0)
          ∧ s.isJoined 1 = true ∧ ∀ i, s.holdsKey 0 i = false)
      ∧ (let s := asking 1 (header 0x23 0x0110 0 0 0 0) State.reset
        channelTableLaw s ∧ s.meetsCheck 1 (crc8 (header 0x23 0x0110 0 0 0 0)) (request 0x23 0x0110 0 0 0 0)
          ∧ s.isJoined 1 = false)
      ∧ (reading 1 (header 0x23 0x0110 0 0 0 0) plain channelled).carriesRead 1 .findChannel plain :=
  ⟨⟨channelTable_asking channelTable_channelled, asking_meets .., by decide, by decide +kernel, by decide +kernel⟩,
    ⟨channelTable_asking channelTable_channelled, asking_meets .., by decide +kernel, by simp [State.holdsKey]⟩,
    ⟨channelTable_asking channelTable_reset, asking_meets .., by decide +kernel⟩, reading_carries rfl⟩

theorem witness_TakeAnswersHeadEntry :
    (let s := asking 0 (header 0x51 0 64 0 0 0) State.reset
     s.meetsCheck 0 (crc8 (header 0x51 0 64 0 0 0)) (request 0x51 0 64 0 0 0)
        ∧ (request 0x51 0 64 0 0 0).kind = some .take ∧ s.isJoined 0 = false)
      ∧ (∀ a ∈ ([0, 65] : List Word16),
        let s := asking 0 (header 0x51 0 a 0 0 0) delivered
        s.meetsCheck 0 (crc8 (header 0x51 0 a 0 0 0)) (request 0x51 0 a 0 0 0) ∧ s.isJoined 0 = true
          ∧ (a = 0 ∨ 64 < a.toNat))
      ∧ (∀ a ∈ ([1, 64] : List Word16),
        let s := asking 0 (header 0x51 0 a 0 0 0) delivered
        s.meetsCheck 0 (crc8 (header 0x51 0 a 0 0 0)) (request 0x51 0 a 0 0 0) ∧ s.isJoined 0 = true
          ∧ 1 ≤ a.toNat ∧ a.toNat ≤ 64 ∧ s.queues.read 0 = [])
      ∧ ∀ a ∈ ([1, 64] : List Word16),
        let s := asking 1 (header 0x51 0 a 0 0 0) delivered
        s.meetsCheck 1 (crc8 (header 0x51 0 a 0 0 0)) (request 0x51 0 a 0 0 0) ∧ s.isJoined 1 = true
          ∧ 1 ≤ a.toNat ∧ a.toNat ≤ 64 ∧ s.queues.read 1 = [0] := by
  refine ⟨⟨asking_meets .., by decide, by decide +kernel⟩, fun a ha => ⟨asking_meets .., by rfl, ?_⟩,
    fun a ha => ⟨asking_meets .., by rfl, ?_⟩, fun a ha => ⟨asking_meets .., by rfl, ?_⟩⟩ <;>
    (simp only [List.mem_cons, List.not_mem_nil, or_false] at ha; rcases ha with rfl | rfl <;> decide +kernel)

theorem witness_TakeCommitMovesReader :
    let p (c : Commit) : PendingResult := { plain with commit := c }
    ∀ c ∈ [Commit.take 0 .data 64 false true, .take 0 .stalled 0 false false, .nothing, .take 0 .aborted 0 false true,
        .take 0 .data 36 true false],
      (reading 1 (header 0x51 0 64 0 0 0) (p c) delivered).carriesRead 1 .take (p c) ∧ (p c).commit = c :=
  fun _ _ => ⟨reading_carries rfl, rfl⟩

/-! ### Membership, notices and attention -/

theorem witness_JoinAdmitsHost :
    (let s := carrying 0 (header 0x11 0 10 1 64 0) State.reset
     s.carries 0 .join (request 0x11 0 10 1 64 0) ∧ firstRefusal (joinRefusals s 0 (request 0x11 0 10 1 64 0)) = none
        ∧ ∀ v, s.vote = some v → v.voters ≠ noHosts ∧ v.voters.read 0 = false)
      ∧ (let v : Vote := { voters := HostSet.insert noHosts 1, opener := 1, deadline := 500 }
        let s := carrying 0 (header 0x11 0 60000 0xFFFF 1 0) { State.reset with vote := some v }
        s.carries 0 .join (request 0x11 0 60000 0xFFFF 1 0)
          ∧ firstRefusal (joinRefusals s 0 (request 0x11 0 60000 0xFFFF 1 0)) = none
          ∧ ∀ w, s.vote = some w → w.voters ≠ noHosts ∧ w.voters.read 0 = false)
      ∧ firstRefusal (joinRefusals State.reset 0 (request 0x11 0 9 1 64 0)) = some .badRequest
      ∧ firstRefusal (joinRefusals State.reset 0 (request 0x11 0 60001 1 64 0)) = some .badRequest
      ∧ firstRefusal (joinRefusals State.reset 0 (request 0x11 0 0 0 64 0)) = some .badRequest
      ∧ firstRefusal (joinRefusals State.reset 0 (request 0x11 0 0 1 65 0)) = some .badRequest
      ∧ firstRefusal (joinRefusals joined 0 (request 0x11 0 0 1 65 0)) = some .busy := by
  refine ⟨⟨⟨carrying_carries, rfl⟩, by decide +kernel, fun v hv => ?_⟩,
    ⟨⟨carrying_carries, rfl⟩, by decide +kernel, fun w hw => ?_⟩, by decide +kernel⟩
  · cases hv
  · cases hw
    decide +kernel

theorem witness_DepartureTearsDown :
    ((carrying 1 (header 0x12 0 0 0 0 0) delivered).carries 1 .leave (request 0x12 0 0 0 0 0)
        ∧ (carrying 1 (header 0x12 0 0 0 0 0) delivered).isJoined 1 = true)
      ∧ (let s := { delivered with
          now := 100, members := delivered.members.update 1 (fun m => { m with leaseDeadline := some 100 }) }
        s.isJoined 1 = true ∧ (s.members.read 1).leaseDeadline = some 100 ∧ 100 ≤ s.now)
      ∧ (∀ g ∈ [1, 2],
        let v : Vote := { voters := HostSet.insert noHosts g, opener := 1, deadline := 500 }
        let s := { delivered with vote := some v }
        s.vote = some v ∧ v.voters.read g = true ∧ (g ≠ 1 ∨ ∀ x, x ≠ 1 → v.voters.read x = false)
          ∧ s.isJoined 3 = true ∧ v.voters.read 3 = false)
      ∧ (let v : Vote := { voters := (noHosts.insert 2).insert 3, opener := 2, deadline := 500 }
        let s := { delivered with
          vote := some v, members := delivered.members.update 0 (fun m => { m with state := .detached }) }
        s.vote = some v ∧ v.voters.read 2 = true ∧ ∀ g, g ≠ 1 → v.voters.read g = s.isJoined g) :=
  ⟨⟨⟨carrying_carries, rfl⟩, by decide +kernel⟩, by decide +kernel, by decide +kernel, by decide +kernel⟩

theorem witness_SetOwnParameter :
    let set (a b : Word16) (s : State) : State := carrying 0 (header 0x13 0 a b 0 0) s
    let r (a b : Word16) : Request := request 0x13 0 a b 0 0
    let marked : State := { joined with accounts := joined.accounts.update 0 (fun a => { a with exhausted := true }) }
    (∀ b, (set 1 b joined).carriesSet 0 .leasePeriod (r 1 b) ∧ (set 2 b joined).carriesSet 0 .attentionMask (r 2 b)
        ∧ (set 3 b joined).carriesSet 0 .creditThreshold (r 3 b) ∧ (set 3 b marked).carriesSet 0 .creditThreshold (r 3 b))
      ∧ firstRefusal (setRefusals joined 0 true false) = none
      ∧ firstRefusal (setRefusals joined 0 false false) = some .badRequest
      ∧ firstRefusal (setRefusals State.reset 0 true false) = some .notJoined
      ∧ ((marked.accounts.read 0).exhausted = true ∧ 40 ≤ marked.credit 0 ∧ ¬ 41 ≤ marked.credit 0) :=
  ⟨fun _ => ⟨⟨⟨carrying_carries, rfl⟩, rfl⟩, ⟨⟨carrying_carries, rfl⟩, rfl⟩, ⟨⟨carrying_carries, rfl⟩, rfl⟩,
    ⟨carrying_carries, rfl⟩, rfl⟩, by decide +kernel⟩

theorem witness_SetSharedParameter :
    let set (a b : Word16) : State := carrying 0 (header 0x13 0 a b 0 0) joined
    let r (a b : Word16) : Request := request 0x13 0 a b 0 0
    (∀ b, (set 0x10 b).carriesSet 0 .reserveThreshold (r 0x10 b) ∧ (set 0x11 b).carriesSet 0 .turnWindow (r 0x11 b)
        ∧ (set 0x12 b).carriesSet 0 .voteWindow (r 0x12 b) ∧ (set 0x13 b).carriesSet 0 .precedence (r 0x13 b)
        ∧ (set 0x14 b).carriesSet 0 .quotaCeiling (r 0x14 b))
      ∧ firstRefusal (setRefusals joined 0 true true) = none ∧ joined.rationed = false ∧ joined.freeList.length = 512
      ∧ firstRefusal (setRefusals joined 0 false true) = some .badRequest
      ∧ firstRefusal (setRefusals channelled 0 true true) = some .busy :=
  ⟨fun _ => ⟨⟨⟨carrying_carries, rfl⟩, rfl⟩, ⟨⟨carrying_carries, rfl⟩, rfl⟩, ⟨⟨carrying_carries, rfl⟩, rfl⟩,
    ⟨⟨carrying_carries, rfl⟩, rfl⟩, ⟨carrying_carries, rfl⟩, rfl⟩, by decide +kernel⟩

theorem witness_VoteClearVotesOrClears :
    let cast (s : State) : State := carrying 0 (header 0x15 0 0 0 0 0) s
    let one : Vote := { voters := HostSet.insert noHosts 1, opener := 1, deadline := 500 }
    let alone : State := { joined with members := State.reset.members.write 0 { Member.reset with state := .joined } }
    (∀ s, (cast s).carries 0 .voteClear (request 0x15 0 0 0 0 0))
      ∧ (joined.isJoined 0 = true ∧ joined.isJoined 3 = true ∧ joined.vote = none)
      ∧ (({ joined with vote := some one } : State).isJoined 3 = true ∧ one.voters.read 3 = false)
      ∧ (alone.isJoined 0 = true ∧ HostSet.insert noHosts 0 = alone.joinedHosts) :=
  ⟨fun _ => ⟨carrying_carries, rfl⟩, by decide +kernel, by decide +kernel, by decide +kernel⟩

theorem ready_steps : ∃ t, step ready = .next t :=
  next_of_after (c := .selAsserted 0) (s := { ready with pending := [.millisecondTimeStep] }) (by decide +kernel)

theorem deadline_ready : deadlineLaw ready := by
  refine ⟨?_, ?_, ?_⟩ <;> simp [ready, joined, State.reset, Turn.deadline, Member.reset]

theorem witness_ExpiriesActWhenReached :
    let one : Vote := { voters := HostSet.insert noHosts 1, opener := 1, deadline := 102 }
    (∀ t ∈ [Turn.granted 1 102, .inUse 1 102],
      let s := { contended with turn := t, claimants := noHosts }
      t.deadline = some 102 ∧ 102 ≤ s.now ∧ s.nextClaimant = none ∧ s.isJoined 1 = true)
      ∧ (∀ t ∈ [Turn.granted 1 102, .inUse 1 102],
        let s := { contended with turn := t }
        t.deadline = some 102 ∧ 102 ≤ s.now ∧ s.nextClaimant = some 2)
      ∧ (({ contended with vote := some one } : State).vote = some one ∧ one.deadline ≤ contended.now)
      ∧ (contended.turn.deadline = some 120 ∧ contended.now < 120) ∧ contended.vote = none
      ∧ (contended.members.read 0).leaseDeadline = none
      ∧ deadlineLaw ready ∧ ∃ t, step ready = .next t :=
  ⟨by decide +kernel, by decide +kernel, by decide +kernel, by decide +kernel, by decide +kernel, by decide +kernel,
    deadline_ready, ready_steps⟩

theorem witness_AckClearsNamedLatches :
    (∀ a, (carrying 1 (header 0x18 0 a 0 0 0) delivered).carries 1 .ack (request 0x18 0 a 0 0 0))
      ∧ (63 : Word16).toNat < 64 ∧ 64 ≤ (64 : Word16).toNat :=
  ⟨fun _ => ⟨carrying_carries, rfl⟩, by decide⟩

theorem witness_NoticeKeptLostOrDiscarded :
    (∀ n ∈ [15, 16],
      let s := joined.setDesk 0 { Desk.ready with notices := List.replicate n .voteFailed, lost := 255 }
      s.isJoined 0 = true ∧ (s.desks.read 0).notices.length = n) ∧ State.reset.isJoined 0 = false := by decide +kernel

/-! ### Channels, subscriptions and deliveries -/

theorem witness_OpenChannelTakesLowestSlot :
    (let s := carrying 3 (header 0x21 0x0330 2048 0b1111 2 0) channelled
     let r := request 0x21 0x0330 2048 0b1111 2 0
     channelTableLaw s ∧ s.carries 3 .openChannel r ∧ firstRefusal (openRefusals s 3 r) = none
       ∧ (s.channels.read 1).state = .closed ∧ ∀ j, j < 1 → (s.channels.read j).state ≠ .closed)
      ∧ (let s := carrying 3 (header 0x21 0x0330 2049 0b1111 2 0) channelled
        let r := request 0x21 0x0330 2049 0b1111 2 0
        channelTableLaw s ∧ s.carries 3 .openChannel r ∧ firstRefusal (openRefusals s 3 r) = some .badRequest) :=
  ⟨⟨channelTable_carrying channelTable_channelled, ⟨carrying_carries, rfl⟩, by decide +kernel, by decide +kernel,
      by decide +kernel⟩,
    ⟨channelTable_carrying channelTable_channelled, ⟨carrying_carries, rfl⟩, by decide +kernel⟩⟩

theorem channelTable_delivered : channelTableLaw delivered := by
  unfold channelTableLaw
  decide +kernel

theorem witness_CloseChannelAbortsFreesTells :
    (let s := carrying 0 (header 0x22 0x0110 0 0 0 0) delivered
     let r := request 0x22 0x0110 0 0 0 0
     channelTableLaw s ∧ s.carries 0 .closeChannel r ∧ fillingLaw s ∧ seventhLaw s
       ∧ (s.channels.read 0).subscriberCount = s.subscribersOn 0 ∧ firstRefusal (closeRefusals s 0 r) = none
       ∧ s.holdsKey r.key 0 = true)
      ∧ (let s := { carrying 0 (header 0x22 0x0110 0 0 0 0) filling with turn := .inUse 0 120 }
        s.turn = .inUse 0 120 ∧ (s.messages.read 0).publisher = 0 ∧ (s.messages.read 0).state = .filling
          ∧ (s.messages.read 0).channel = 0)
      ∧ (let s := carrying 2 (header 0x22 0x0110 0 0 0 0) delivered
        let r := request 0x22 0x0110 0 0 0 0
        channelTableLaw s ∧ s.carries 2 .closeChannel r
          ∧ firstRefusal (closeRefusals s 2 r) = some .notPermitted) := by
  refine ⟨⟨channelTable_carrying channelTable_delivered, ⟨carrying_carries, rfl⟩, ?_, ?_, by decide +kernel,
    by decide +kernel, by decide +kernel⟩, by decide +kernel,
    ⟨channelTable_carrying channelTable_delivered, ⟨carrying_carries, rfl⟩, by decide +kernel⟩⟩
  · unfold fillingLaw sixthLaw
    decide +kernel
  · unfold seventhLaw
    decide +kernel

theorem witness_SubscribeTakesLowestRecord :
    (let s := carrying 3 (header 0x31 0x0110 0 0 64 0b110) channelled
     let r := request 0x31 0x0110 0 0 64 0b110
     channelTableLaw s ∧ s.carries 3 .subscribe r ∧ firstRefusal (subscribeRefusals s 3 r) = none
       ∧ s.holdsKey r.key 0 = true ∧ (s.subs.read 2).state = .free ∧ ∀ j, j < 2 → (s.subs.read j).state ≠ .free)
      ∧ (let s := carrying 3 (header 0x31 0x0110 0 0 64 0b100) channelled
        let r := request 0x31 0x0110 0 0 64 0b100
        channelTableLaw s ∧ s.carries 3 .subscribe r ∧ firstRefusal (subscribeRefusals s 3 r) = some .badRequest) :=
  ⟨⟨channelTable_carrying channelTable_channelled, ⟨carrying_carries, rfl⟩, by decide +kernel, by decide +kernel,
      by decide +kernel, by decide +kernel⟩,
    ⟨channelTable_carrying channelTable_channelled, ⟨carrying_carries, rfl⟩, by decide +kernel⟩⟩

theorem witness_UnsubscribePurgesAndFrees :
    let r (a : Word16) (d : Byte) : Request := request 0x32 0 a 0 0 d
    (∀ a d, (carrying 1 (header 0x32 0 a 0 0 d) delivered).carries 1 .unsubscribe (r a d))
      ∧ firstRefusal (unsubscribeRefusals delivered 1 (r 0 1)) = none ∧ ((0 : SubId).val = (r 0 1).a.toNat)
      ∧ (delivered.queues.read 1).Nodup
      ∧ firstRefusal (unsubscribeRefusals delivered 1 (r 0 2)) = some .badRequest
      ∧ firstRefusal (unsubscribeRefusals delivered 1 (r 64 0)) = some .badIndex :=
  ⟨fun _ _ => ⟨carrying_carries, rfl⟩, by decide +kernel⟩

theorem witness_SuspendAndResumeSetRecordState :
    let r (c : Byte) (a : Word16) : Request := request c 0 a 0 0 0
    (∀ a, (carrying 1 (header 0x33 0 a 0 0 0) delivered).carries 1 .suspend (r 0x33 a)
        ∧ (carrying 1 (header 0x34 0 a 0 0 0) delivered).carries 1 .resume (r 0x34 a))
      ∧ firstRefusal (restRefusals delivered 1 (r 0x33 0)) = none ∧ ((0 : SubId).val = (r 0x33 0).a.toNat)
      ∧ firstRefusal (restRefusals delivered 1 (r 0x34 1)) = some .badIndex :=
  ⟨fun _ => ⟨⟨carrying_carries, rfl⟩, carrying_carries, rfl⟩, by decide +kernel⟩

theorem witness_DeliveryOutcome :
    ((delivered.subs.read 0).queued < (delivered.subs.read 0).limit ∧ (delivered.entries.read 2).inUse = false
        ∧ ∀ f, f < 2 → (delivered.entries.read f).inUse = true)
      ∧ (let s := { delivered with entries := Vector.replicate 256 { Entry.free with inUse := true } }
        (s.subs.read 0).queued < (s.subs.read 0).limit ∧ ∀ e, (s.entries.read e).inUse = true)
      ∧ (let s := { delivered with subs := delivered.subs.update 0 (fun x => { x with limit := 1 }) }
        (s.subs.read 0).limit ≤ (s.subs.read 0).queued ∧ (s.subs.read 0).policy ≠ .dropOldest)
      ∧ (let s := { delivered with subs := delivered.subs.update 1 (fun x => { x with limit := 1 }) }
        (s.subs.read 1).limit ≤ (s.subs.read 1).queued ∧ (s.subs.read 1).policy = .dropOldest
          ∧ (s.queues.read 2).find? (fun e =>
            (s.entries.read e).state == .queued && (s.entries.read e).subscription == some 1) = some 1)
      ∧ ∀ h i, (fun h : HostId => if h = 1 then some 0 else if h = 2 then some 1 else none : HostId → Option SubId) h
          = some i ↔ (h, i) ∈ delivered.targets 0 := by
  decide +kernel

theorem witness_SkipRemovesHead :
    (∀ h, (carrying h (header 0x52 0 0 0 0 0) delivered).carries h .skip (request 0x52 0 0 0 0 0))
      ∧ delivered.isJoined 0 = true ∧ delivered.queues.read 0 = [] ∧ delivered.isJoined 1 = true
      ∧ delivered.queues.read 1 = [0] :=
  ⟨fun _ => ⟨carrying_carries, rfl⟩, by decide +kernel⟩

/-! ### Publishing, cells and turns -/

theorem channelTable_rationed (t : Turn) : channelTableLaw { channelled with rationed := true, turn := t } :=
  channelTable_congr (s := channelled) rfl channelTable_channelled

theorem witness_BeginStartsMessage :
    let r := request 0x41 0x0110 0x0025 100 0 1
    let load (s : State) : State := carrying 0 (header 0x41 0x0110 0x0025 100 0 1) s
    channelTableLaw (load channelled) ∧ (load channelled).carries 0 .begin r
      ∧ (∀ t ∈ [Turn.none, .granted 0 120, .granted 1 120, .inUse 1 120],
        let s := load { channelled with rationed := true, turn := t }
        channelTableLaw s ∧ s.carries 0 .begin r ∧ firstRefusal (beginRefusals s 0 r) = none ∧ s.turn = t)
      ∧ firstRefusal (beginRefusals (load channelled) 0 r) = none ∧ (load channelled).holdsKey r.key 0 = true
      ∧ ((load channelled).messages.read 0).state = .vacant ∧ (∀ k, ¬ k < (0 : MsgId)) ∧ channelled.rationed = false
      ∧ firstRefusal (beginRefusals (load channelled) 0 (request 0x41 0x0110 0 129 0 1)) = some .length
      ∧ firstRefusal (beginRefusals (load channelled) 1 r) = some .notPermitted
      ∧ firstRefusal (beginRefusals (load filling) 0 r) = some .busy := by
  refine ⟨channelTable_carrying channelTable_channelled, ⟨carrying_carries, rfl⟩, fun t ht =>
    ⟨channelTable_carrying (channelTable_rationed t), ⟨carrying_carries, rfl⟩, ?_, rfl⟩,
    by decide +kernel, by decide +kernel, by decide +kernel, fun k => by simp, by decide +kernel⟩
  simp only [List.mem_cons, List.not_mem_nil, or_false] at ht
  rcases ht with rfl | rfl | rfl | rfl <;> decide +kernel

/-- The message of 11.3 without a declared length, at its length and a payload of 28 bytes up to the channel's maximum. -/
def growing : State :=
  carrying 0 (header 0x42 0 28 0 0 0)
    { filling with messages := filling.messages.update 0 (fun m => { m with declared := none }) }
    (List.replicate 28 0xAB)

theorem witness_PutAppendsOrRefuses :
    growing.carries 0 .put (request 0x42 0 28 0 0 0)
      ∧ firstRefusal (putRefusals growing 0 (request 0x42 0 28 0 0 0)) = none ∧ growing.fillingOf 0 = some 0
      ∧ firstRefusal (putLimits growing 0 0 28) = none ∧ (growing.links.read 0).payload.length = 28
      ∧ firstRefusal (putLimits growing 0 0 29) = some .length
      ∧ (let s := { growing with
          accounts := joined.accounts.write 0 { quota := 2, charge := 2, exhausted := true }
          messages := growing.messages.update 0 (fun m => { m with length := 64, cellCount := 1 }) }
        firstRefusal (putLimits s 0 0 1) = some .noCell)
      ∧ firstRefusal (putRefusals growing 0 (request 0x42 0 65 0 0 0)) = some .badRequest
      ∧ firstRefusal (putRefusals growing 1 (request 0x42 0 64 0 0 0)) = some .noMessage :=
  ⟨⟨carrying_carries, rfl⟩, by decide +kernel⟩

theorem idle_framer {l : Link} (h : l = Link.reset) : framerLaw l := by
  subst h
  refine ⟨?_, ?_, ?_, ?_, ?_, ?_⟩ <;> simp [Link.reset]

theorem storage_growing : storageLaw growing := by
  have hf : growing.freeList = (List.finRange 512).drop 2 := by
    simp only [growing, carrying, State.setLink, filling]
  refine ⟨?_, ?_, ?_, ?_, ?_, fun h => ?_⟩
  · have hh : growing.heldCells = (List.finRange 512).take 2 := by decide +kernel
    rw [firstLaw, hf, hh]
    exact List.perm_append_comm.trans (List.take_append_drop 2 _ ▸ List.Perm.refl _)
  · unfold secondLaw
    decide +kernel
  · intro c hc
    have h2 : 2 ≤ c.val := by
      obtain ⟨i, hi, hc⟩ := List.mem_iff_getElem.1 (hf ▸ hc)
      rw [List.getElem_drop, List.getElem_finRange] at hc
      simp [← hc]
    simp only [growing, carrying, State.setLink, filling, channelled, joined, State.reset, Table.read_write]
    rw [if_neg (fun h => by simp [h] at h2), if_neg (fun h => by simp [h] at h2), Table.read_replicate]
  · decide +kernel
  · intro m hm
    have h0 : m = 0 := by
      revert m
      decide +kernel
    subst h0
    have hc : growing.chainOf 0 = [0, 1] := by decide +kernel
    rw [hc]
    refine ⟨by decide +kernel, by decide +kernel, by decide +kernel, by decide +kernel, by decide +kernel, ?_, ?_⟩
    · decide +kernel
    · intro c h1
      have : c = 1 := by simpa [eq_comm] using h1
      subst this
      decide +kernel
  · by_cases h0 : h = 0
    · subst h0
      have hr : (growing.links.read 0).phase = .payloadIn := by decide +kernel
      refine ⟨?_, ?_, ?_, ?_, ?_, ?_⟩ <;> simp only [hr] <;> decide +kernel
    · exact idle_framer (by revert h; decide +kernel)

theorem witness_PutBytesAreRead :
    storageLaw growing ∧ Memory.wf growing.pool = true ∧ growing.carries 0 .put (request 0x42 0 28 0 0 0)
      ∧ growing.fillingOf 0 = some 0 ∧ firstRefusal (putRefusals growing 0 (request 0x42 0 28 0 0 0)) = none
      ∧ firstRefusal (putLimits growing 0 0 28) = none ∧ ∃ t, exec (.put 0) growing = .next t :=
  ⟨storage_growing, by decide +kernel, ⟨carrying_carries, rfl⟩, by decide +kernel, by decide +kernel,
    by decide +kernel, next_of_after (by decide +kernel)⟩

theorem witness_SealDeliversAndCounts :
    let s := carrying 0 (header 0x43 0 0 0 0 0) filling
    let u := carrying 0 (header 0x43 0 0 0 0 0)
      { filling with messages := filling.messages.update 0 (fun m => { m with declared := some 101 }) }
    (s.carries 0 .sealMsg (request 0x43 0 0 0 0 0) ∧ firstRefusal (endRefusals s 0) = none ∧ s.fillingOf 0 = some 0
        ∧ (s.messages.read 0).declared = some (s.messages.read 0).length)
      ∧ (u.carries 0 .sealMsg (request 0x43 0 0 0 0 0) ∧ firstRefusal (endRefusals u 0) = none ∧ u.fillingOf 0 = some 0
        ∧ (u.messages.read 0).declared = some 101 ∧ 101 ≠ (u.messages.read 0).length)
      ∧ firstRefusal (endRefusals s 1) = some .noMessage :=
  ⟨⟨⟨carrying_carries, rfl⟩, by decide +kernel⟩, ⟨⟨carrying_carries, rfl⟩, by decide +kernel⟩, by decide +kernel⟩

theorem witness_AbortEndsMessage :
    let s := carrying 0 (header 0x44 0 0 0 0 0) filling
    s.carries 0 .abort (request 0x44 0 0 0 0 0) ∧ firstRefusal (endRefusals s 0) = none ∧ s.fillingOf 0 = some 0
      ∧ firstRefusal (endRefusals s 1) = some .noMessage :=
  ⟨⟨carrying_carries, rfl⟩, by decide +kernel⟩

theorem witness_ExhaustedMarkJudgement :
    let account (quota charge : Nat) (mark : Bool) (threshold : Nat) : State :=
      { joined with
        accounts := joined.accounts.write 0 { quota := quota, charge := charge, exhausted := mark }
        members := joined.members.update 0 (fun m => { m with creditThreshold := threshold }) }
    (((account 2 2 false 1).accounts.read 0).exhausted = false ∧ (account 2 2 false 1).credit 0 = 0)
      ∧ (((account 2 1 false 1).accounts.read 0).exhausted = false ∧ 0 < (account 2 1 false 1).credit 0)
      ∧ (((account 2 3 true 1).accounts.read 0).exhausted = true ∧ (account 2 3 true 1).credit 0 = 0)
      ∧ (((account 4 3 true 2).accounts.read 0).exhausted = true ∧ 0 < (account 4 3 true 2).credit 0
        ∧ (account 4 3 true 2).credit 0 < ((account 4 3 true 2).members.read 0).creditThreshold)
      ∧ (((account 4 2 true 2).accounts.read 0).exhausted = true ∧ 0 < (account 4 2 true 2).credit 0
        ∧ ((account 4 2 true 2).members.read 0).creditThreshold ≤ (account 4 2 true 2).credit 0) := by decide +kernel

theorem witness_RationedFlagJudgement :
    let free (n : Nat) (f : Bool) : State := { joined with freeList := (List.finRange 512).take n, rationed := f }
    (free 32 false).freeList.length ≤ (free 32 false).params.reserveThreshold
      ∧ (free 33 false).params.reserveThreshold < (free 33 false).freeList.length
      ∧ (free 47 true).freeList.length < (free 47 true).params.reserveThreshold + 16
      ∧ (free 48 true).params.reserveThreshold + 16 ≤ (free 48 true).freeList.length := by decide +kernel

/-! ### Invariants -/

theorem eleventh_ready : eleventhLaw ready := by
  intro v hv
  simp [ready, joined, State.reset] at hv

theorem twelfth_ready : twelfthLaw ready := by
  intro h
  simp [ready, joined, State.reset, Desk.ready]

theorem witness_StepKeepsVoteAndNoticeLaws : eleventhLaw ready ∧ twelfthLaw ready ∧ ∃ t, step ready = .next t :=
  ⟨eleventh_ready, twelfth_ready, ready_steps⟩

theorem witness_StepKeepsPoolForm : Memory.wf ready.pool = true ∧ ∃ t, step ready = .next t :=
  ⟨rfl, ready_steps⟩

theorem link_ready : linkLaw ready := fun h => idle_framer (by simp [ready, joined, State.reset])

theorem witness_StepKeepsFramers : linkLaw ready ∧ ∃ t, step ready = .next t := ⟨link_ready, ready_steps⟩

theorem channelTable_ready : channelTableLaw ready := channelTable_congr rfl channelTable_joined

theorem witness_StepKeepsChannelTable : channelTableLaw ready ∧ ∃ t, step ready = .next t :=
  ⟨channelTable_ready, ready_steps⟩

theorem subscriptionTable_ready : subscriptionTableLaw ready := by
  refine ⟨?_, ?_⟩ <;> simp [ready, joined, State.reset, Subscription.free]

theorem witness_StepKeepsSubscriptionTable : subscriptionTableLaw ready ∧ ∃ t, step ready = .next t :=
  ⟨subscriptionTable_ready, ready_steps⟩

theorem witness_StepKeepsTurnRecord : turnRecordLaw ready ∧ ∃ t, step ready = .next t := by
  refine ⟨⟨?_, ?_, ?_, ?_⟩, ready_steps⟩ <;> simp [ready, joined, State.reset, Turn.holder]

theorem filling_ready : fillingLaw ready := by
  refine ⟨fun m hm => ?_, fun m hm => ?_⟩ <;> simp [ready, joined, State.reset, Message.vacant] at hm

theorem departed_ready : departedLaw ready := by
  intro h hj
  simp [ready, joined, State.isJoined] at hj

/-- The laws of the departed are met with every host DETACHED too, by the state after reset. -/
theorem witness_StepKeepsDeparted :
    (fillingLaw ready ∧ departedLaw ready ∧ ∃ t, step ready = .next t)
      ∧ (let s := { State.reset with pending := [.selAsserted 0] }
        (∀ h, s.isJoined h = false) ∧ fillingLaw s ∧ departedLaw s ∧ ∃ t, step s = .next t) := by
  refine ⟨⟨filling_ready, departed_ready, ready_steps⟩, by decide +kernel, ⟨fun m hm => ?_, fun m hm => ?_⟩,
    fun h _ => ?_, _, rfl⟩
  · simp [State.reset, Message.vacant] at hm
  · simp [State.reset, Message.vacant] at hm
  · simp [State.reset, Message.vacant, Subscription.free, Turn.holder, Desk.ready, Member.reset, noHosts]

theorem storage_ready : storageLaw ready := by
  refine ⟨?_, ?_, ?_, ?_, ?_, link_ready⟩
  · have hf : ready.freeList = List.finRange 512 := by simp only [ready, joined, State.reset]
    have hh : ready.heldCells = [] := by decide +kernel
    rw [firstLaw, hf, hh, List.append_nil]
  · unfold secondLaw
    decide +kernel
  · simp [ready, joined, State.reset]
  · simp [ready, joined, State.reset, Message.vacant]
  · intro m hm
    simp [ready, joined, State.reset, Message.vacant, Message.isLive] at hm

theorem witness_StepKeepsStorage : storageLaw ready ∧ ∃ t, step ready = .next t := ⟨storage_ready, ready_steps⟩

theorem delivery_ready : deliveryLaw ready := by
  have hp : ∀ h, (ready.links.read h).pendingResult = none := by simp [ready, joined, State.reset, Link.reset]
  have hm : ∀ m, ready.messages.read m = Message.vacant := by simp [ready, joined, State.reset]
  have he : ∀ e, ready.entries.read e = Entry.free := by simp [ready, joined, State.reset]
  have hq : ∀ h, ready.queues.read h = [] := by simp [ready, joined, State.reset]
  refine ⟨fun m => ?_, ?_, fun h => ?_, ?_, fun i => ?_, channelTable_ready, subscriptionTable_ready, filling_ready,
    link_ready, ?_, fun e _ => he e, fun e h => ?_, fun m _ => hm m, fun m h => ?_, fun m h => ?_, fun h e h1 => ?_,
    fun h e h1 => ?_, fun h p e o n last opened h1 => ?_⟩
  · intro hl
    rw [hm] at hl
    cases hl
  · unfold fourthLaw
    exact ⟨by decide +kernel, fun e => by simp [hq, he, Entry.free]⟩
  · simp [hq]
  · unfold seventhLaw
    decide +kernel
  · simp [ready, joined, State.reset, Subscription.free]
  · decide +kernel
  · simp [he, Entry.free] at h
  · simp [hm, Message.isLive, Message.vacant] at h
  · simp [hm, Message.vacant] at h
  · simp [hq] at h1
  · obtain ⟨p, _, _, _, _, h2, _⟩ := h1
    rw [hp] at h2
    cases h2
  · rw [hp] at h1
    cases h1

theorem witness_StepKeepsDeliveries : deliveryLaw ready ∧ ∃ t, step ready = .next t := ⟨delivery_ready, ready_steps⟩

theorem witness_StepKeepsSound : Sound ready ∧ ∃ t, step ready = .next t := by
  refine ⟨⟨storage_ready, delivery_ready, ⟨?_, ?_, ?_, ?_⟩, departed_ready, ?_, ?_, ?_, rfl, deadline_ready⟩, ready_steps⟩
  · refine ⟨?_, ?_, ?_, ?_⟩ <;> simp [ready, joined, State.reset, Turn.holder]
  · simp [ready, joined, State.reset]
  · simp [ready, joined, State.reset]
  · simp [ready, joined, State.reset]
  · intro c hc
    simp [ready, joined, State.reset, Channel.closed] at hc
  · exact eleventh_ready
  · exact twelfth_ready

end Sys2Proof.Tests
end

section
/-! SUPPORT. What reset leaves, table by table. -/

namespace Sys2Proof.Machine

/-- At reset READY alone is latched, and READY no mask can hide (R165, R175). -/
theorem reset_atn (h : HostId) : State.reset.atn h = true := by
  simp [State.atn, State.reset, Desk.ready, atnOf]

/-- Every framer at reset is the one of R128. -/
theorem reset_link (h : HostId) : State.reset.links.read h = Link.reset := Table.read_replicate _ h

theorem reset_desk (h : HostId) : State.reset.desks.read h = Desk.ready := Table.read_replicate _ h

theorem reset_freeList : State.reset.freeList = List.finRange 512 := by simp only [State.reset]

/-- Settles O4: each table of the starting state holds one record throughout. -/
theorem resetValues : Obligations.ResetValues := by
  refine ⟨rfl, reset_freeList, fun c => Table.read_replicate _ c, fun h => Table.read_replicate _ h,
    fun m => Table.read_replicate _ m, fun c => Table.read_replicate _ c, fun i => Table.read_replicate _ i,
    fun e => Table.read_replicate _ e, fun h => Table.read_replicate _ h, rfl, rfl, rfl, rfl, rfl, rfl,
    fun h => Table.read_replicate _ h, fun h => ?_, fun h => ?_⟩
  · rw [reset_desk]
    exact ⟨rfl, rfl, rfl, rfl, reset_atn h⟩
  · rw [reset_link]
    exact ⟨rfl, rfl, rfl, rfl, rfl, rfl, rfl, rfl, rfl, rfl, rfl⟩

end Sys2Proof.Machine
end

section
/-! SUPPORT. The channel requests: what FIND_CHANNEL's header answers, and OPEN_CHANNEL and SUBSCRIBE by their tables. -/

namespace Sys2Proof.Machine

/-! ## A good header's shared effects -/

/-- A good header's renewal touches one host record (R151). -/
theorem renewLease_eq (h : HostId) (s : State) :
    renewLease h s = { s with members := s.members.write h ((s.members.read h).renewed s.now) } := by
  by_cases hr : (s.members.read h).state = .joined ∧ (s.members.read h).leasePeriod ≠ 0
  · simp [renewLease, Member.renewed, State.isJoined, State.modMember, Table.update, hr]
  · have hn : ¬ (s.isJoined h = true ∧ (s.members.read h).leasePeriod ≠ 0) := by simpa [State.isJoined] using hr
    rw [renewLease, Member.renewed, if_neg hn, if_neg hr, Table.write_read]

theorem renewLease_isJoined (h g : HostId) (s : State) : (renewLease h s).isJoined g = s.isJoined g := by
  have hr : ((s.members.read h).renewed s.now).state = (s.members.read h).state := by
    unfold Member.renewed
    split <;> rfl
  by_cases hg : g = h
  · simp [renewLease_eq, State.isJoined, hg, hr]
  · simp [renewLease_eq, State.isJoined, hg, Table.read_write]

/-- A read kind answered at its header, where nothing but the lease and the link changes. -/
theorem respond_after_header (h : HostId) (b : Byte) (p : PendingResult) (s : State) :
    respond h p (renewLease h (captureByte h b s)) = s.answered h b p := by
  simp [respond, renewLease_eq, captureByte, State.answered, State.modLink, Table.update, Link.headed]

/-! ## Channel information -/

/-- A number as a 16-bit field is its two bytes, most significant first. -/
theorem bytes16_word (n : Nat) : bytes16 (word n) = [BitVec.ofNat 8 (n / 256), BitVec.ofNat 8 n] := by
  have hhi : (BitVec.ofNat 16 n).extractLsb' 8 8 = BitVec.ofNat 8 (n / 256) := by
    apply BitVec.eq_of_toNat_eq
    simp only [BitVec.extractLsb'_toNat, BitVec.toNat_ofNat, Nat.shiftRight_eq_div_pow]
    omega
  have hlo : (BitVec.ofNat 16 n).extractLsb' 0 8 = BitVec.ofNat 8 n := by
    apply BitVec.eq_of_toNat_eq
    simp only [BitVec.extractLsb'_toNat, BitVec.toNat_ofNat, Nat.shiftRight_eq_div_pow]
    omega
  rw [bytes16, word, hhi, hlo]

/-- FIND_CHANNEL's answer depends on the tables of the state before its header. -/
theorem findChannel_answer {s : State} {h : HostId} {b : Byte} {r : Request} (hm : s.meetsCheck h b r)
    (hk : r.kind = some .findChannel) :
    exec (.findChannel h b) s = .next (s.answered h b
      (if s.isJoined h = true then plainResponse (s.channelInfo (s.findKey r.key)) .ok
        else plainResponse (s.channelInfo none) .notJoined)) := by
  have hc : ∀ o, (renewLease h (captureByte h b s)).channelInfo o = s.channelInfo o := by
    intro o
    cases o <;> simp [State.channelInfo]
  have hf : (renewLease h (captureByte h b s)).findKey r.key = s.findKey r.key := by simp [State.findKey]
  have hj : (renewLease h (captureByte h b s)).isJoined h = s.isJoined h := by
    rw [renewLease_isJoined]
    simp [State.isJoined]
  show execFindChannel h b s = _
  rw [execFindChannel, headerEnd_of_meetsCheck hm (by simp [isKind, hk]), answerFindChannel, hj, hc, hf, hc]
  split <;> rw [respond_after_header]

theorem state_of_holdsKey {s : State} {k : Word16} {i : ChanId} (hk : s.holdsKey k i = true) :
    (s.channels.read i).state ≠ .closed := by
  simp only [State.holdsKey, Bool.and_eq_true, bne_iff_ne] at hk
  exact hk.1.2

theorem state_of_findKey {s : State} {k : Word16} {i : ChanId} (hf : s.findKey k = some i) :
    (s.channels.read i).state ≠ .closed :=
  state_of_holdsKey (holdsKey_of_findKey hf)

/-- The eight bytes of the slot that holds a key, which is OPEN or DRAINING and has a mode (R23, R187). -/
theorem channelInfo_of_holdsKey {s : State} {k : Word16} {i : ChanId} (hl : channelTableLaw s)
    (hk : s.holdsKey k i = true) :
    s.channelInfo (some i) =
      [ BitVec.ofNat 8 ((if (s.channels.read i).state = .opened then 1 else 2)
          + (if (s.channels.read i).mode = .whole then 4 else 8)
          + (match (s.channels.read i).creator with
            | some g => 16 + 32 * g.val
            | none => 0)),
        BitVec.ofNat 8 i.val, BitVec.ofNat 8 ((s.channels.read i).maxLength / 256),
        BitVec.ofNat 8 (s.channels.read i).maxLength, BitVec.ofNat 8 (s.channels.read i).subscriberCount,
        BitVec.ofNat 8 (s.channels.read i).liveCount, (s.channels.read i).nextSequence.extractLsb' 8 8,
        (s.channels.read i).nextSequence.extractLsb' 0 8 ] := by
  have hopen := state_of_holdsKey hk
  obtain ⟨-, hmode, -, -⟩ := hl.2.1 i hopen
  have hstate : (s.channels.read i).state.code = if (s.channels.read i).state = .opened then 1 else 2 := by
    cases hs : (s.channels.read i).state <;> simp_all [ChanState.code]
  have hcode : 4 * (s.channels.read i).mode.code = if (s.channels.read i).mode = .whole then 4 else 8 := by
    cases hs : (s.channels.read i).mode <;> simp_all [Mode.code]
  simp only [State.channelInfo, hstate, hcode, bytes16_word, byteOf]
  rfl

/-- Settles O20: the answer is that of the slot found, and the slot found is the one that holds the key. -/
theorem findChannelAnswersSlot : Obligations.FindChannelAnswersSlot := by
  intro s h b r
  refine ⟨fun hl hm hk => ⟨fun hj => ?_, fun hj hnone => ?_, fun i hj hi => ?_⟩, fun p hc => ?_⟩
  · rw [findChannel_answer hm hk, if_neg (by simp [hj])]
    rfl
  · rw [findChannel_answer hm hk, if_pos hj, (findKey_eq_none_iff s r.key).2 hnone]
    rfl
  · rw [findChannel_answer hm hk, if_pos hj, findKey_of_holdsKey hl hi, channelInfo_of_holdsKey hl hi]
    rfl
  · show execFindChannelCommit h s = _
    rw [execFindChannelCommit, endRead_of_carries hc, setLast_closeTransaction]

/-! ## OPEN_CHANNEL -/

/-- Check 3 of R32 is the coding of the mode and the ranges together. -/
theorem openArguments_bad (r : Request) :
    (r.a == 0 || decide (2048 < r.a.toNat) || (r.c != 1 && r.c != 2) || decide (16 ≤ r.b.toNat)) =
      !((Mode.ofCode r.c).isSome && openInRange r) := by
  have ha : (r.a == 0) = decide (r.a.toNat < 1) := by
    rw [Bool.eq_iff_iff, beq_iff_eq, decide_eq_true_iff, ← BitVec.toNat_inj]
    simp
  have hc : (Mode.ofCode r.c).isSome = !(r.c != 1 && r.c != 2) := by
    by_cases h1 : r.c = 1#16 <;> by_cases h2 : r.c = 2#16 <;> simp [Mode.ofCode, h1, h2]
  have hr : openInRange r =
      !(decide (r.a.toNat < 1) || decide (2048 < r.a.toNat) || decide (16 ≤ r.b.toNat)) := by
    have hmax : Config.maxMessage = 2048 := rfl
    rw [Bool.eq_iff_iff]
    simp only [openInRange, Bool.and_eq_true, Bool.not_eq_true', Bool.or_eq_false_iff, decide_eq_true_eq,
      decide_eq_false_iff_not]
    omega
  rw [ha, hc, hr]
  cases r.c != 1 && r.c != 2 <;> simp

/-- Everything OPEN_CHANNEL can do: a refusal by its table, or the lowest CLOSED slot opened. -/
theorem ownerOpenChannel_cases (h : HostId) (l : Link) {s : State} (hl : channelTableLaw s) :
    (∃ c, firstRefusal (openRefusals s h l.request) = some c ∧ ownerOpenChannel h l s = refuse c s)
      ∨ (firstRefusal (openRefusals s h l.request) = none ∧ l.request.key ≠ 0
        ∧ openInRange l.request = true ∧ s.findKey l.request.key = none
        ∧ ∃ i mode, Mode.ofCode l.request.c = some mode ∧ s.channels.lowest (fun c => c.state == .closed) = some i
        ∧ ownerOpenChannel h l s =
          accept (s.modChannel i (fun _ => openedChannel h l.request mode)) (word i.val)) := by
  simp only [openRefusals, firstRefusal, openArguments_bad, ownerOpenChannel]
  cases hj : s.isJoined h with
  | false => exact .inl ⟨.notJoined, by simp⟩
  | true =>
  by_cases hk : l.request.key = 0#16
  · exact .inl ⟨.badKey, by simp [hk]⟩
  cases hm : Mode.ofCode l.request.c with
  | none => exact .inl ⟨.badRequest, by simp [hk]⟩
  | some mode =>
  cases hr : openInRange l.request with
  | false => exact .inl ⟨.badRequest, by simp [hk]⟩
  | true =>
  cases hf : s.findKey l.request.key with
  | some i =>
    have hopen := state_of_findKey hf
    simp only [keyIs_eq hl hf]
    cases hs : (s.channels.read i).state with
    | closed => exact absurd hs hopen
    | opened => exact .inl ⟨.channelExists, by simp [hk]⟩
    | draining => exact .inl ⟨.busy, by simp [hk]⟩
  | none =>
  simp only [keyIs_of_none hf]
  cases hlow : s.channels.lowest (fun c => c.state == .closed) with
  | none =>
    have hfull := (Table.lowest_eq_none_iff _ _).1 hlow
    exact .inl ⟨.tableFull, by simp [hk]; simpa using hfull⟩
  | some i =>
    have hclosed := Table.lowest_some hlow
    exact .inr ⟨by simp [hk]; exact ⟨i, by simpa using hclosed⟩, hk, trivial, trivial, i, mode, rfl, rfl,
      by simp [hk]⟩

theorem Mode.eq_of_ofCode {c : Word16} {mode : Mode} (hm : Mode.ofCode c = some mode) :
    mode = if c = 1 then .whole else .streaming := by
  unfold Mode.ofCode at hm
  split at hm
  · next h1 => rw [if_pos h1, Option.some.inj hm]
  · next h1 =>
    rw [if_neg h1]
    split at hm
    · exact (Option.some.inj hm).symm
    · cases hm

/-- The end of a transaction changes nothing the tables of OPEN_CHANNEL and SUBSCRIBE see. -/
theorem openRefusals_closeTransaction (h : HostId) (r : Request) (s : State) :
    openRefusals (closeTransaction h s) h r = openRefusals s h r := by
  simp [openRefusals, State.isJoined, State.keyIs, State.holdsKey]

theorem channelTableLaw_closeTransaction {h : HostId} {s : State} (hl : channelTableLaw s) :
    channelTableLaw (closeTransaction h s) := by
  simpa [channelTableLaw] using hl

theorem findKey_closeTransaction (h : HostId) (k : Word16) (s : State) :
    (closeTransaction h s).findKey k = s.findKey k := by
  simp [State.findKey]

theorem lowest_free {s : State} {i : SubId} (hi : (s.subs.read i).state = .free)
    (hlow : ∀ j, j < i → (s.subs.read j).state ≠ .free) : s.subs.lowest (fun x => x.state == .free) = some i := by
  rw [Table.lowest_eq_some_iff]
  exact ⟨by simpa using hi, fun j hj => by simpa using hlow j hj⟩

theorem lowest_closed {s : State} {i : ChanId} (hi : (s.channels.read i).state = .closed)
    (hlow : ∀ j, j < i → (s.channels.read j).state ≠ .closed) :
    s.channels.lowest (fun c => c.state == .closed) = some i := by
  rw [Table.lowest_eq_some_iff]
  exact ⟨by simpa using hi, fun j hj => by simpa using hlow j hj⟩

theorem HostSet.ofBits_read (w : Word16) (g : HostId) : (HostSet.ofBits w).read g = w.getLsbD g.val := by
  fin_cases g <;> rfl

/-- Settles O32, by the cases of its owner. -/
theorem openChannelTakesLowestSlot : Obligations.OpenChannelTakesLowestSlot := by
  rintro s h r hl ⟨hc, hk⟩
  have ⟨_, _, _, hreq⟩ := hc
  have hcases := ownerOpenChannel_cases h (s.links.read h) (channelTableLaw_closeTransaction (h := h) hl)
  simp only [openRefusals_closeTransaction, hreq, closeTransaction_frame] at hcases
  refine ⟨fun c hf => ?_, fun i hf hi hlow => ?_⟩
  · obtain ⟨c', hf', ho⟩ | ⟨hf', -⟩ := hcases
    · obtain rfl : c = c' := Option.some.inj (hf.symm.trans hf')
      exact endRequest_refused hc (by simp [isKind, hk]) ho
    · rw [hf] at hf'
      cases hf'
  · obtain ⟨c', hf', -⟩ | ⟨-, -, -, -, i', mode, hm, hl', ho⟩ := hcases
    · rw [hf] at hf'
      cases hf'
    · obtain rfl : i = i' := Option.some.inj ((lowest_closed hi hlow).symm.trans hl')
      have hmode := Mode.eq_of_ofCode hm
      refine ⟨openedChannel h r mode, ?_, by simp [openedChannel, hmode], fun g => HostSet.ofBits_read r.b g⟩
      refine (endRequest_accepted hc (by simp [isKind, hk]) ho (by simp)).trans ?_
      simp [closeTransaction_eq, State.ended, State.setLink, State.modChannel, Table.update, word]

/-! ## SUBSCRIBE -/

/-- The policy code is the low two bits of D (R183). -/
theorem Policy.ofBits_eq (d : Byte) :
    Policy.ofBits d = if d &&& 3 = 1 then some .dropNew else if d &&& 3 = 2 then some .dropOldest else Option.none := by
  have hb : ∀ n : Nat, n < 4 → (d.extractLsb' 0 2 = BitVec.ofNat 2 n ↔ d &&& 3#8 = BitVec.ofNat 8 n) := by
    intro n hn
    rw [← BitVec.toNat_inj, ← BitVec.toNat_inj]
    have hand : d.toNat &&& 3 = d.toNat % 4 := Nat.and_two_pow_sub_one_eq_mod d.toNat 2
    simp only [BitVec.extractLsb'_toNat, BitVec.toNat_and, BitVec.toNat_ofNat, Nat.shiftRight_zero, Nat.reducePow,
      Nat.reduceMod, hand]
    omega
  simp only [Policy.ofBits]
  exact if_congr (hb 1 (by decide)) rfl (if_congr (hb 2 (by decide)) rfl rfl)

theorem Policy.eq_of_ofBits {d : Byte} {p : Policy} (hp : Policy.ofBits d = some p) :
    p = if d &&& 3 = 1 then .dropNew else .dropOldest := by
  rw [Policy.ofBits_eq] at hp
  split at hp
  · next h1 => rw [if_pos h1, Option.some.inj hp]
  · next h1 =>
    rw [if_neg h1]
    split at hp
    · exact (Option.some.inj hp).symm
    · cases hp

/-- Check 5 of R46 is the coding of the policy and the ranges together. -/
theorem subscribeArguments_bad (r : Request) :
    (r.c == 0 || decide (64 < r.c.toNat) || (r.d &&& 3 != 1 && r.d &&& 3 != 2) || decide (8 ≤ r.d.toNat)) =
      !((Policy.ofBits r.d).isSome && subscribeInRange r) := by
  have hc : (r.c == 0) = decide (r.c.toNat < 1) := by
    rw [Bool.eq_iff_iff, beq_iff_eq, decide_eq_true_iff, ← BitVec.toNat_inj]
    simp
  have hp : (Policy.ofBits r.d).isSome = !(r.d &&& 3 != 1 && r.d &&& 3 != 2) := by
    by_cases h1 : r.d &&& 3#8 = 1#8 <;> by_cases h2 : r.d &&& 3#8 = 2#8 <;>
      simp [Policy.ofBits_eq, h1, h2]
  have hr : subscribeInRange r =
      !(decide (r.c.toNat < 1) || decide (64 < r.c.toNat) || decide (8 ≤ r.d.toNat)) := by
    have hmax : Config.maxLimit = 64 := rfl
    rw [Bool.eq_iff_iff]
    simp only [subscribeInRange, Bool.and_eq_true, Bool.not_eq_true', Bool.or_eq_false_iff, decide_eq_true_eq,
      decide_eq_false_iff_not]
    omega
  rw [hc, hp, hr]
  cases r.d &&& 3 != 1 && r.d &&& 3 != 2 <;> simp

/-- Everything SUBSCRIBE can do: a refusal by its table, or the lowest FREE record taken on the OPEN slot of the key. -/
theorem ownerSubscribe_cases (h : HostId) (l : Link) {s : State} (hl : channelTableLaw s) :
    (∃ c, firstRefusal (subscribeRefusals s h l.request) = some c ∧ ownerSubscribe h l s = refuse c s)
      ∨ (firstRefusal (subscribeRefusals s h l.request) = none ∧ ∃ c i p, s.findKey l.request.key = some c
        ∧ (s.channels.read c).state = .opened ∧ Policy.ofBits l.request.d = some p
        ∧ s.subs.lowest (fun x => x.state == .free) = some i
        ∧ ownerSubscribe h l s =
          accept ((s.modSub i (fun _ => newSubscription h l.request c p)).modChannel c
            (fun x => { x with subscriberCount := x.subscriberCount + 1 })) (word i.val)) := by
  simp only [subscribeRefusals, firstRefusal, subscribeArguments_bad, ownerSubscribe]
  cases hj : s.isJoined h with
  | false => exact .inl ⟨.notJoined, by simp⟩
  | true =>
  by_cases hk : l.request.key = 0#16
  · exact .inl ⟨.badKey, by simp [hk]⟩
  cases hf : s.findKey l.request.key with
  | none => exact .inl ⟨.noChannel, by simp [hk, keyIs_of_none hf]⟩
  | some c =>
  simp only [keyIs_eq hl hf]
  cases hs : (s.channels.read c).state with
  | closed => exact absurd hs (state_of_findKey hf)
  | draining => exact .inl ⟨.busy, by simp [hk]⟩
  | opened =>
  cases hp : Policy.ofBits l.request.d with
  | none => exact .inl ⟨.badRequest, by simp [hk]⟩
  | some p =>
  cases hr : subscribeInRange l.request with
  | false => exact .inl ⟨.badRequest, by simp [hk]⟩
  | true =>
  cases hlow : s.subs.lowest (fun x => x.state == .free) with
  | none =>
    have hfull := (Table.lowest_eq_none_iff _ _).1 hlow
    exact .inl ⟨.tableFull, by simp [hk]; simpa using hfull⟩
  | some i =>
    have hfree := Table.lowest_some hlow
    exact .inr ⟨by simp [hk]; exact ⟨i, by simpa using hfree⟩, c, i, p, rfl, hs, rfl, rfl, by simp [hk]⟩

theorem subscribeRefusals_closeTransaction (h : HostId) (r : Request) (s : State) :
    subscribeRefusals (closeTransaction h s) h r = subscribeRefusals s h r := by
  simp [subscribeRefusals, State.isJoined, State.keyIs, State.holdsKey]

/-- Settles O34, by the cases of its owner. -/
theorem subscribeTakesLowestRecord : Obligations.SubscribeTakesLowestRecord := by
  rintro s h r hl ⟨hc, hk⟩
  have ⟨_, _, _, hreq⟩ := hc
  have hcases := ownerSubscribe_cases h (s.links.read h) (channelTableLaw_closeTransaction (h := h) hl)
  simp only [subscribeRefusals_closeTransaction, hreq, closeTransaction_frame, findKey_closeTransaction] at hcases
  refine ⟨fun c hf => ?_, fun i c hf hkey hi hlow => ?_⟩
  · obtain ⟨c', hf', ho⟩ | ⟨hf', -⟩ := hcases
    · obtain rfl : c = c' := Option.some.inj (hf.symm.trans hf')
      exact endRequest_refused hc (by simp [isKind, hk]) ho
    · rw [hf] at hf'
      cases hf'
  · obtain ⟨c', hf', -⟩ | ⟨-, c', i', p, hkey', -, hp, hl', ho⟩ := hcases
    · rw [hf] at hf'
      cases hf'
    · obtain rfl : c = c' := Option.some.inj ((findKey_of_holdsKey hl hkey).symm.trans hkey')
      obtain rfl : i = i' := Option.some.inj ((lowest_free hi hlow).symm.trans hl')
      have hpolicy := Policy.eq_of_ofBits hp
      refine (endRequest_accepted hc (by simp [isKind, hk]) ho (by simp)).trans ?_
      simp [closeTransaction_eq, State.ended, State.setLink, State.modChannel, State.modSub, Table.update, word,
        newSubscription, hpolicy]

end Sys2Proof.Machine
end

section
/-! SUPPORT. The Channel Table through a step: which records may take the place of a slot's record, and that every
operation puts such a record there. -/

namespace Sys2Proof.Machine

/-! ## One slot -/

/-- What `channelTableLaw` says of one slot (R23, R37). -/
def Channel.isOrderly (c : Channel) : Prop :=
  (c.state = .closed → c = Channel.closed)
    ∧ (c.state ≠ .closed → c.key ≠ 0 ∧ c.mode ≠ .none ∧ 1 ≤ c.maxLength ∧ c.maxLength ≤ Config.maxMessage)
    ∧ (c.state = .draining → c.liveCount ≠ 0)

/-- A slot's next record is orderly, and holds a key only where the slot held the same key before. -/
structure Channel.MayBecome (c d : Channel) : Prop where
  orderly : d.isOrderly
  key : d.state ≠ .closed → c.state ≠ .closed ∧ d.key = c.key

theorem channelTableLaw_iff (s : State) :
    channelTableLaw s ↔ (∀ c, (s.channels.read c).isOrderly)
      ∧ ∀ c d, (s.channels.read c).state ≠ .closed → (s.channels.read d).state ≠ .closed →
          (s.channels.read c).key = (s.channels.read d).key → c = d :=
  ⟨fun ⟨hclosed, hopen, hkeys, hlive⟩ => ⟨fun c => ⟨hclosed c, hopen c, hlive c⟩, hkeys⟩,
    fun ⟨ho, hkeys⟩ => ⟨fun c => (ho c).1, fun c => (ho c).2.1, hkeys, fun c => (ho c).2.2⟩⟩

theorem Channel.closed_isOrderly : Channel.closed.isOrderly :=
  ⟨fun _ => rfl, fun h => absurd rfl h, fun h => by cases h⟩

namespace Channel.MayBecome

variable {c : Channel}

theorem refl (h : c.isOrderly) : c.MayBecome c := ⟨h, fun hs => ⟨hs, rfl⟩⟩

theorem closed : c.MayBecome Channel.closed := ⟨Channel.closed_isOrderly, fun h => absurd rfl h⟩

/-- A record that keeps a slot's state, key, mode and maximum length, and leaves a drain its live messages. -/
theorem of_open {d : Channel} (h : c.isOrderly) (ho : c.state ≠ .closed) (hs : d.state ≠ .closed)
    (hf : d.key = c.key ∧ d.mode = c.mode ∧ d.maxLength = c.maxLength) (hd : d.state = .draining → d.liveCount ≠ 0) :
    c.MayBecome d := by
  obtain ⟨hk, hm, hx⟩ := hf
  exact ⟨⟨fun hc => absurd hc hs, fun _ => by rw [hk, hm, hx]; exact h.2.1 ho, hd⟩, fun _ => ⟨ho, hk⟩⟩

/-- One live message less (R19, R39). -/
theorem lessOne (h : c.isOrderly) : c.MayBecome c.lessOne := by
  by_cases hc : c.state = .closed
  · rw [h.1 hc]
    exact closed
  rw [Channel.lessOne]
  split
  · exact closed
  · next hd => exact of_open h hc hc ⟨rfl, rfl, rfl⟩ fun hs => fun h0 => hd ⟨hs, h0⟩

/-- One subscriber less (R49). -/
theorem fewerSubscribers (h : c.isOrderly) : c.MayBecome { c with subscriberCount := c.subscriberCount - 1 } := by
  by_cases hc : c.state = .closed
  · rw [h.1 hc]
    exact closed
  · exact of_open h hc hc ⟨rfl, rfl, rfl⟩ h.2.2

/-- The third step of a close (R37). -/
theorem afterClose (h : c.isOrderly) : c.MayBecome c.afterClose := by
  rw [Channel.afterClose]
  split
  · exact closed
  · next hn =>
    have hc : c.state ≠ .closed := fun hc => hn (by rw [h.1 hc]; rfl)
    exact of_open h hc (by simp) ⟨rfl, rfl, rfl⟩ fun _ => hn

/-- The creator gone (R29). -/
theorem disown (h : c.isOrderly) (g : HostId) : c.MayBecome (c.disown g) := by
  rw [Channel.disown]
  split
  · next hc => exact of_open h hc.1 hc.1 ⟨rfl, rfl, rfl⟩ h.2.2
  · exact refl h

end Channel.MayBecome

/-! ## The table -/

theorem channelTableLaw_of_channels_eq {s t : State} (h : t.channels = s.channels) (hl : channelTableLaw s) :
    channelTableLaw t := by
  rw [channelTableLaw_iff, h, ← channelTableLaw_iff]
  exact hl

theorem channelTableLaw_of_all_closed {t : State} (h : t.channels = Vector.replicate 32 Channel.closed) :
    channelTableLaw t := by
  rw [channelTableLaw_iff, h]
  simp only [Table.read_replicate]
  exact ⟨fun _ => Channel.closed_isOrderly, fun _ _ hc => absurd rfl hc⟩

/-- A state whose slots have each become what they may keeps the law. -/
theorem channelTableLaw_of_mayBecome {s t : State} (hl : channelTableLaw s)
    (h : ∀ i, (s.channels.read i).MayBecome (t.channels.read i)) : channelTableLaw t := by
  rw [channelTableLaw_iff]
  refine ⟨fun i => (h i).orderly, fun i j hi hj hk => ?_⟩
  obtain ⟨hi', hki⟩ := (h i).key hi
  obtain ⟨hj', hkj⟩ := (h j).key hj
  exact hl.2.2.1 i j hi' hj' (hki.symm.trans (hk.trans hkj))

theorem channelTableLaw_orderly {s : State} (hl : channelTableLaw s) (i : ChanId) : (s.channels.read i).isOrderly :=
  ((channelTableLaw_iff s).1 hl).1 i

/-- One slot changed. -/
theorem channelTableLaw_update {s t : State} {i : ChanId} {f : Channel → Channel} (hl : channelTableLaw s)
    (ht : t.channels = s.channels.update i f) (hf : (s.channels.read i).MayBecome (f (s.channels.read i))) :
    channelTableLaw t := by
  refine channelTableLaw_of_mayBecome hl fun j => ?_
  rw [ht, Table.read_update]
  split
  · next hj => rw [hj]; exact hf
  · exact .refl (channelTableLaw_orderly hl j)

/-- A slot opened under a key that no slot holds (R27, R32). -/
theorem channelTableLaw_open {s t : State} {i : ChanId} {d : Channel} (hl : channelTableLaw s)
    (ht : t.channels = s.channels.write i d) (hd : d.isOrderly)
    (hk : ∀ j, (s.channels.read j).state ≠ .closed → (s.channels.read j).key ≠ d.key) : channelTableLaw t := by
  rw [channelTableLaw_iff, ht]
  refine ⟨fun j => ?_, fun j k hj hk' heq => ?_⟩
  · rw [Table.read_write]
    split
    · exact hd
    · exact channelTableLaw_orderly hl j
  · rw [Table.read_write] at hj hk' heq
    rw [Table.read_write] at heq
    split at hj <;> split at hk'
    · next h1 h2 => rw [h1, h2]
    · next h1 h2 => exact absurd (by simpa [h1, h2] using heq.symm) (hk k hk')
    · next h1 h2 => exact absurd (by simpa [h1, h2] using heq) (hk j hj)
    · next h1 h2 => exact hl.2.2.1 j k hj hk' (by simpa [h1, h2] using heq)

/-- A fold keeps a law that each of its steps keeps. -/
theorem foldl_invariant {σ α : Type} {P : σ → Prop} {f : σ → α → σ} (hf : ∀ s a, P s → P (f s a)) (l : List α) {s : σ}
    (hs : P s) : P (l.foldl f s) := by
  induction l generalizing s with
  | nil => exact hs
  | cons a l ih => exact ih (hf s a hs)

/-! ## The shared operations -/

section
variable {s : State} (hl : channelTableLaw s)
include hl

theorem channelTableLaw_freeMessage (m : MsgId) : channelTableLaw (freeMessage m s) := by
  refine channelTableLaw_update hl (i := (s.messages.read m).channel) (f := Channel.lessOne) ?_
    (.lessOne (channelTableLaw_orderly hl _))
  unfold freeMessage
  dsimp only
  split <;> simp

theorem channelTableLaw_release (m : MsgId) : channelTableLaw (release m s) := by
  unfold release
  have ht : channelTableLaw (s.modMessage m (fun x => { x with refCount := x.refCount - 1 })) :=
    channelTableLaw_of_channels_eq (State.modMessage_channels s m _) hl
  dsimp only
  split
  · exact channelTableLaw_freeMessage ht m
  · exact ht

theorem channelTableLaw_abortMessage (m : MsgId) : channelTableLaw (abortMessage m s) := by
  unfold abortMessage
  dsimp only
  split
  · have ht := channelTableLaw_of_channels_eq
      (State.modMessage_channels s m (fun x => { x with state := .aborted })) hl
    exact channelTableLaw_of_channels_eq (by simp) (channelTableLaw_release ht m)
  · exact channelTableLaw_of_channels_eq (by simp) (channelTableLaw_release hl m)

theorem channelTableLaw_removeEntry (h : HostId) (e : EntryId) : channelTableLaw (removeEntry h e s) := by
  unfold removeEntry
  refine channelTableLaw_release (channelTableLaw_of_channels_eq ?_ hl) _
  split <;> rfl

theorem channelTableLaw_removeEntries (h : HostId) (es : List EntryId) : channelTableLaw (removeEntries h es s) := by
  unfold removeEntries
  exact foldl_invariant (P := channelTableLaw) (fun _ e hs => channelTableLaw_removeEntry hs h e) es hl

theorem channelTableLaw_freeSubscription (i : SubId) : channelTableLaw (freeSubscription i s) :=
  channelTableLaw_update (f := fun c => { c with subscriberCount := c.subscriberCount - 1 }) hl rfl
    (.fewerSubscribers (channelTableLaw_orderly hl _))

theorem channelTableLaw_deliver (m : MsgId) (h : HostId) (i : SubId) : channelTableLaw (deliver m h i s) := by
  unfold deliver
  dsimp only
  split
  · split <;> exact channelTableLaw_of_channels_eq (by simp) hl
  · split
    · next e _ _ =>
      refine channelTableLaw_of_channels_eq ?_ (channelTableLaw_removeEntry hl h e)
      simp [displace]
    · exact channelTableLaw_of_channels_eq (by simp) hl

theorem channelTableLaw_createDeliveries (m : MsgId) : channelTableLaw (createDeliveries m s) := by
  unfold createDeliveries
  exact foldl_invariant (P := channelTableLaw) (fun _ t hs => channelTableLaw_deliver hs m t.1 t.2) _ hl

end

/-! ## Membership events -/

section
variable {s : State}

theorem channelTableLaw_exchangeClear (s : State) : channelTableLaw (exchangeClear s) := by
  have hc : (exchangeClear s).channels = Vector.replicate 32 Channel.closed := by
    unfold exchangeClear
    refine (foldl_keeps State.channels _ _ _ (by simp)).trans ?_
    simp [clearTables]
  exact channelTableLaw_of_all_closed hc

variable (hl : channelTableLaw s)
include hl

theorem channelTableLaw_judgeVote : channelTableLaw (judgeVote s) := by
  unfold judgeVote
  split
  · exact hl
  · split
    · exact channelTableLaw_of_channels_eq (by simp) hl
    · split
      · exact channelTableLaw_exchangeClear _
      · exact hl

theorem channelTableLaw_abortFillingOf (h : HostId) : channelTableLaw (abortFillingOf h s) := by
  unfold abortFillingOf
  split
  · exact channelTableLaw_abortMessage hl _
  · exact hl

theorem channelTableLaw_dismantle (h : HostId) (final : Membership) : channelTableLaw (dismantle h final s) := by
  have hfree : channelTableLaw (freeSubscriptionsOf h s) := by
    unfold freeSubscriptionsOf
    exact foldl_invariant (P := channelTableLaw) (fun _ i hs => channelTableLaw_freeSubscription hs i) _ hl
  have habort := channelTableLaw_abortFillingOf
    (channelTableLaw_removeEntries hfree h ((freeSubscriptionsOf h s).queues.read h)) h
  refine channelTableLaw_of_mayBecome habort fun i => ?_
  have hi : (dismantle h final s).channels.read i =
      Channel.disown h ((abortFillingOf h (removeEntries h ((freeSubscriptionsOf h s).queues.read h)
        (freeSubscriptionsOf h s))).channels.read i) := by simp [dismantle]
  rw [hi]
  exact .disown (channelTableLaw_orderly habort i) h

theorem channelTableLaw_teardown (h : HostId) (final : Membership) (n : Notice) :
    channelTableLaw (teardown h final n s) := by
  have hvote : channelTableLaw (withdrawVote h (dismantle h final s)) := by
    unfold withdrawVote
    exact channelTableLaw_judgeVote
      (channelTableLaw_of_channels_eq (by simp only) (channelTableLaw_dismantle hl h final))
  unfold teardown
  exact channelTableLaw_of_channels_eq (by simp) hvote

end

end Sys2Proof.Machine
end

section
/-! SUPPORT. The Channel Table through every command: what each request can leave, and the step lemma. -/

namespace Sys2Proof.Machine

/-! ## The shared forms of a command -/

@[simp] theorem accept_fst (s : State) (v : Word16) : (accept s v).1 = s := rfl

theorem setLast_channels (h : HostId) (r : Reply) (b : Byte) (s : State) :
    (setLast h r b s).channels = s.channels := by simp

section
variable {s t : State} {h : HostId} (hl : channelTableLaw s)
include hl

theorem channelTableLaw_deselectAfterEvent (ht : deselectAfterEvent h s = .next t) : channelTableLaw t := by
  obtain ⟨rfl, -⟩ := deselectAfterEvent_cases ht
  exact channelTableLaw_of_channels_eq (by simp) hl

/-- A deselect that names a request keeps the law if its owner does. -/
theorem channelTableLaw_endRequest {which : Request → Bool} {owner : Link → State → State × Reply}
    (ho : ∀ l u, channelTableLaw u → channelTableLaw (owner l u).1) (ht : endRequest h which owner s = .next t) :
    channelTableLaw t := by
  obtain ⟨r, -, -, rfl⟩ | ht := endRequest_cases ht
  · exact channelTableLaw_of_channels_eq (setLast_channels _ _ _ _) (ho _ _ (channelTableLaw_closeTransaction hl))
  · exact channelTableLaw_deselectAfterEvent hl ht

/-- A deselect that commits a read keeps the law if its commit does. -/
theorem channelTableLaw_endRead {k : Kind} {owner : Commit → State → State}
    (ho : ∀ c u, channelTableLaw u → channelTableLaw (owner c u)) (ht : endRead h k owner s = .next t) :
    channelTableLaw t := by
  obtain ⟨p, -, rfl⟩ | ht := endRead_cases ht
  · exact channelTableLaw_of_channels_eq (setLast_channels _ _ _ _) (ho _ _ (channelTableLaw_closeTransaction hl))
  · exact channelTableLaw_deselectAfterEvent hl ht

/-- A byte that completes a header keeps the law if the framer's answer leaves the channels alone. -/
theorem channelTableLaw_headerEnd {b : Byte} {good : Bool} {which : Request → Bool} {answer : Request → State → State}
    (ha : ∀ r u, (answer r u).channels = u.channels) (ht : headerEnd h b good which answer s = .next t) :
    channelTableLaw t := by
  obtain ⟨-, -, rfl⟩ | rfl := headerEnd_cases ht
  · exact channelTableLaw_of_channels_eq (by simp [ha]) hl
  · exact hl

end

/-! ## Headers -/

theorem answerGet_channels (h : HostId) (r : Request) (s : State) : (answerGet h r s).channels = s.channels := by
  unfold answerGet
  split <;> simp

theorem answerFetchNotice_channels (h : HostId) (r : Request) (s : State) :
    (answerFetchNotice h r s).channels = s.channels := by
  simp [answerFetchNotice]

theorem answerReadCounter_channels (h : HostId) (r : Request) (s : State) :
    (answerReadCounter h r s).channels = s.channels := by
  unfold answerReadCounter
  split <;> simp

theorem answerFindChannel_channels (h : HostId) (r : Request) (s : State) :
    (answerFindChannel h r s).channels = s.channels := by
  unfold answerFindChannel
  split <;> simp

theorem answerTake_channels (h : HostId) (r : Request) (s : State) : (answerTake h r s).channels = s.channels := by
  unfold answerTake
  split
  · simp
  · split
    · simp
    · split
      · simp
      · unfold answerTakeHead
        dsimp only
        split <;> simp

theorem answerKind_channels (h : HostId) (r : Request) (s : State) : (answerKind h r s).channels = s.channels := by
  unfold answerKind
  split
  · exact answerGet_channels h r s
  · exact answerFetchNotice_channels h r s
  · exact answerReadCounter_channels h r s
  · exact answerFindChannel_channels h r s
  · exact answerTake_channels h r s
  · simp

/-! ## What each request can leave -/

theorem ownerSetOwn_channels {store : Word16 → State → State} (hs : ∀ b u, (store b u).channels = u.channels)
    (h : HostId) (inRange : Nat → Bool) (l : Link) (s : State) :
    (ownerSetOwn h inRange store l s).1.channels = s.channels := by
  unfold ownerSetOwn
  dsimp only
  split
  · rfl
  · split
    · rfl
    · exact hs _ _

theorem ownerSetShared_channels {store : Word16 → State → State} (hs : ∀ b u, (store b u).channels = u.channels)
    (h : HostId) (inRange : Nat → Bool) (l : Link) (s : State) :
    (ownerSetShared h inRange store l s).1.channels = s.channels := by
  unfold ownerSetShared
  dsimp only
  split
  · rfl
  · split
    · rfl
    · split
      · rfl
      · exact hs _ _

theorem storeThreshold_channels (h : HostId) (b : Word16) (s : State) :
    (storeThreshold h b s).channels = s.channels := by
  unfold storeThreshold
  dsimp only
  split <;> simp

theorem ownerAck_channels (h : HostId) (l : Link) (s : State) : (ownerAck h l s).1.channels = s.channels := by
  unfold ownerAck
  dsimp only
  split
  · rfl
  · simp

theorem ownerPut_channels (h : HostId) (l : Link) (s : State) : (ownerPut h l s).1.channels = s.channels := by
  unfold ownerPut
  dsimp only
  split
  · rfl
  · split
    · rfl
    · split
      · rfl
      · split
        · rfl
        · split
          · rfl
          · simp

theorem ownerRest_channels (h : HostId) (x : SubState) (l : Link) (s : State) :
    (ownerRest h x l s).1.channels = s.channels := by
  unfold ownerRest
  split
  · rfl
  · split
    · rfl
    · simp

theorem castVote_channels (h : HostId) (s : State) : (castVote h s).channels = s.channels := by
  unfold castVote
  split <;> simp

section
variable {s : State} (hl : channelTableLaw s)
include hl

theorem channelTableLaw_ownerVoteClear (h : HostId) (l : Link) : channelTableLaw (ownerVoteClear h l s).1 := by
  unfold ownerVoteClear
  split
  · rw [accept_fst]
    exact channelTableLaw_judgeVote (channelTableLaw_of_channels_eq (castVote_channels h s) hl)
  · exact hl

theorem channelTableLaw_ownerJoin (h : HostId) (l : Link) : channelTableLaw (ownerJoin h l s).1 := by
  unfold ownerJoin
  dsimp only
  split
  · exact hl
  · split
    · exact hl
    · have hadmit : channelTableLaw (postOthers h (.hostJoined h) (admitMember h l.request s)) :=
        channelTableLaw_of_channels_eq (by simp [admitMember]) hl
      rw [accept_fst, tellVote]
      split
      · exact channelTableLaw_judgeVote (channelTableLaw_of_channels_eq (by simp) hadmit)
      · exact hadmit

theorem channelTableLaw_ownerLeave (h : HostId) (l : Link) : channelTableLaw (ownerLeave h l s).1 := by
  unfold ownerLeave
  split
  · rw [accept_fst]
    exact channelTableLaw_teardown hl h _ _
  · exact hl

theorem channelTableLaw_ownerSkip (h : HostId) (l : Link) : channelTableLaw (ownerSkip h l s).1 := by
  unfold ownerSkip
  split
  · exact hl
  · split
    · exact hl
    · rw [accept_fst]
      exact channelTableLaw_removeEntry hl h _

theorem channelTableLaw_ownerUnsubscribe (h : HostId) (l : Link) : channelTableLaw (ownerUnsubscribe h l s).1 := by
  unfold ownerUnsubscribe
  dsimp only
  split
  · exact hl
  · split
    · exact hl
    · split
      · exact hl
      · rw [accept_fst]
        exact channelTableLaw_freeSubscription (channelTableLaw_removeEntries hl h _) _

theorem channelTableLaw_ownerAbort (h : HostId) (l : Link) : channelTableLaw (ownerAbort h l s).1 := by
  unfold ownerAbort
  split
  · exact hl
  · split
    · exact hl
    · rw [accept_fst]
      exact channelTableLaw_abortMessage hl _

theorem channelTableLaw_sealMessage (m : MsgId) : channelTableLaw (sealMessage m s) := by
  have ht : channelTableLaw (s.modMessage m (fun x => { x with state := .sealed })) :=
    channelTableLaw_of_channels_eq (State.modMessage_channels s m _) hl
  unfold sealMessage
  dsimp only
  split
  · exact channelTableLaw_createDeliveries ht m
  · exact ht

theorem channelTableLaw_ownerSeal (h : HostId) (l : Link) : channelTableLaw (ownerSeal h l s).1 := by
  unfold ownerSeal
  dsimp only
  split
  · exact hl
  · split
    · exact hl
    · next m _ =>
      split
      · exact hl
      · rw [accept_fst]
        exact channelTableLaw_of_channels_eq (by simp)
          (channelTableLaw_release (channelTableLaw_sealMessage hl m) m)

/-- One live message and one sequence more on a slot that is not CLOSED (R64). -/
theorem channelTableLaw_startMessage (h : HostId) (r : Request) {i : ChanId} (m : MsgId)
    (hi : (s.channels.read i).state ≠ .closed) : channelTableLaw (startMessage h r i m s) := by
  have ht : channelTableLaw ((s.modMessage m (fun _ => newMessage h r i (s.channels.read i))).modChannel i
      (fun x => { x with nextSequence := x.nextSequence + 1, liveCount := x.liveCount + 1 })) :=
    channelTableLaw_update (i := i)
      (f := fun x => { x with nextSequence := x.nextSequence + 1, liveCount := x.liveCount + 1 }) hl (by simp)
      (.of_open (channelTableLaw_orderly hl i) hi hi ⟨rfl, rfl, rfl⟩ fun _ => Nat.succ_ne_zero _)
  unfold startMessage
  dsimp only
  split
  · exact channelTableLaw_createDeliveries ht m
  · exact ht

omit hl in
/-- Everything BEGIN can leave: the state itself, the arbiter's answer, or a message started on the slot of the key. -/
theorem ownerBegin_cases (h : HostId) (l : Link) (s : State) :
    (ownerBegin h l s).1 = s ∨ (ownerBegin h l s).1 = (arbitrate h s).1
      ∨ ∃ i m, s.findKey l.request.key = some i
        ∧ (ownerBegin h l s).1 = startMessage h l.request i m (arbitrate h s).1 := by
  unfold ownerBegin
  dsimp only
  split
  · exact .inl rfl
  split
  · exact .inl rfl
  split
  · exact .inl rfl
  split
  · exact .inl rfl
  next i hi =>
  split
  · exact .inl rfl
  split
  · exact .inl rfl
  split
  · exact .inl rfl
  split
  · exact .inl rfl
  split
  · exact .inl rfl
  next m _ =>
  split
  · next t ht => exact .inr (.inr ⟨i, m, hi, by rw [ht]; rfl⟩)
  · next t ht => exact .inr (.inl (by rw [ht]; rfl))

theorem channelTableLaw_ownerBegin (h : HostId) (l : Link) : channelTableLaw (ownerBegin h l s).1 := by
  have ha : channelTableLaw (arbitrate h s).1 := channelTableLaw_of_channels_eq (by simp) hl
  obtain ho | ho | ⟨i, m, hi, ho⟩ := ownerBegin_cases h l s <;> rw [ho]
  · exact hl
  · exact ha
  · exact channelTableLaw_startMessage ha h _ m (by simpa using state_of_findKey hi)

theorem channelTableLaw_ownerSubscribe (h : HostId) (l : Link) : channelTableLaw (ownerSubscribe h l s).1 := by
  obtain ⟨c, -, ho⟩ | ⟨-, c, i, p, -, hs, -, -, ho⟩ := ownerSubscribe_cases h l hl <;> rw [ho]
  · exact hl
  · have hopen : (s.channels.read c).state ≠ .closed := by simp [hs]
    exact channelTableLaw_update (i := c) (f := fun x => { x with subscriberCount := x.subscriberCount + 1 }) hl
      (by simp) (.of_open (channelTableLaw_orderly hl c) hopen hopen ⟨rfl, rfl, rfl⟩
        (channelTableLaw_orderly hl c).2.2)

/-- An OPEN_CHANNEL that is not refused opens a slot in order, under a key that no slot holds. -/
theorem channelTableLaw_ownerOpenChannel (h : HostId) (l : Link) : channelTableLaw (ownerOpenChannel h l s).1 := by
  obtain ⟨c, -, ho⟩ | ⟨-, hk, hr, hf, i, mode, hm, -, ho⟩ := ownerOpenChannel_cases h l hl <;> rw [ho]
  · exact hl
  simp only [openInRange, Bool.and_eq_true, decide_eq_true_eq] at hr
  obtain ⟨⟨hmin, hmax⟩, -⟩ := hr
  have hmode : mode ≠ .none := by
    rw [Mode.eq_of_ofCode hm]
    split <;> simp
  refine channelTableLaw_open (i := i) (d := openedChannel h l.request mode) hl
    (by simp [Table.update]) ⟨nofun, fun _ => ⟨hk, hmode, hmin, hmax⟩, nofun⟩
    fun j hj hkey => ?_
  have hn := (findKey_eq_none_iff s l.request.key).1 hf j
  simp_all [State.holdsKey, openedChannel]

end

/-! ## CLOSE_CHANNEL -/

section
variable {s : State} (hl : channelTableLaw s)
include hl

theorem channelTableLaw_closeAborts (c : ChanId) : channelTableLaw (closeAborts c s) := by
  unfold closeAborts
  exact foldl_invariant (P := channelTableLaw)
    (fun _ m hs => channelTableLaw_of_channels_eq (by simp [closeAbort]) (channelTableLaw_abortMessage hs m)) _ hl

theorem channelTableLaw_closeSubscriptions (c : ChanId) : channelTableLaw (closeSubscriptions c s) := by
  unfold closeSubscriptions
  exact foldl_invariant (P := channelTableLaw)
    (fun _ i hs => channelTableLaw_of_channels_eq (by simp [closeSubscription])
      (channelTableLaw_freeSubscription hs i)) _ hl

theorem channelTableLaw_closeChannel (c : ChanId) : channelTableLaw (closeChannel c s) := by
  have ht := channelTableLaw_closeSubscriptions (channelTableLaw_closeAborts hl c) c
  exact channelTableLaw_update (i := c) (f := Channel.afterClose) ht (by simp [closeChannel])
    (.afterClose (channelTableLaw_orderly ht c))

theorem channelTableLaw_ownerCloseChannel (h : HostId) (l : Link) : channelTableLaw (ownerCloseChannel h l s).1 := by
  unfold ownerCloseChannel
  dsimp only
  split
  · exact hl
  split
  · exact hl
  split
  · exact hl
  split
  · exact hl
  split
  · exact hl
  · rw [accept_fst]
    exact channelTableLaw_closeChannel hl _

/-! ## Commits -/

theorem channelTableLaw_commitTake (h : HostId) (c : Commit) : channelTableLaw (commitTake h c s) := by
  unfold commitTake
  split
  · next e count last _ =>
    have ht : channelTableLaw (s.modEntry e (fun x => { x with offset := x.offset + count })) :=
      channelTableLaw_of_channels_eq (State.modEntry_channels s e _) hl
    dsimp only
    split
    · exact channelTableLaw_of_channels_eq (by simp) (channelTableLaw_removeEntry ht h e)
    · exact ht
  · exact channelTableLaw_removeEntry hl h _
  · exact hl

omit hl in
theorem commitFetchNotice_channels (h : HostId) (c : Commit) (s : State) :
    (commitFetchNotice h c s).channels = s.channels := by
  unfold commitFetchNotice
  split <;> simp

omit hl in
theorem commitReadCounter_channels (h : HostId) (c : Commit) (s : State) :
    (commitReadCounter h c s).channels = s.channels := by
  unfold commitReadCounter
  split <;> simp

omit hl in
theorem voidRead_channels (p : Option PendingResult) (s : State) : (voidRead p s).channels = s.channels := by
  unfold voidRead
  split <;> simp

end

/-! ## The step -/

theorem next_eq_of_eq {r : Result} {t u : State} (hu : r = .next u) (ht : r = .next t) : t = u :=
  Host.Outcome.next.inj (ht.symm.trans hu)

theorem execSelAsserted_channels {s t : State} {h : HostId} (ht : execSelAsserted h s = .next t) :
    t.channels = s.channels := by
  unfold execSelAsserted at ht
  dsimp only at ht
  split at ht
  · cases ht
  · split at ht <;> cases ht <;> simp

theorem execHeaderByteArrival_channels {s t : State} {h : HostId} {b : Byte}
    (ht : execHeaderByteArrival h b s = .next t) : t.channels = s.channels := by
  unfold execHeaderByteArrival at ht
  dsimp only at ht
  split at ht
  · cases ht
    simp
  · split at ht <;> cases ht
    rfl

theorem execPayloadByteArrival_channels {s t : State} {h : HostId} {b : Byte}
    (ht : execPayloadByteArrival h b s = .next t) : t.channels = s.channels := by
  unfold execPayloadByteArrival at ht
  dsimp only at ht
  split at ht
  · split at ht <;> cases ht <;> rfl
  · split at ht <;> cases ht
    rfl

theorem execResponseByteArrival_channels {s t : State} {h : HostId}
    (ht : execResponseByteArrival h s = .next t) : t.channels = s.channels := by
  unfold execResponseByteArrival at ht
  dsimp only at ht
  split at ht
  · split at ht <;> cases ht <;> rfl
  · split at ht <;> cases ht
    rfl

theorem execSelectSeen_channels {s t : State} {h : HostId} (ht : execSelectSeen h s = .next t) :
    t.channels = s.channels := by
  unfold execSelectSeen at ht
  dsimp only at ht
  split at ht <;> cases ht
  simp

theorem execResetRelease_channels {s t : State} (ht : execResetRelease s = .next t) : t.channels = s.channels := by
  unfold execResetRelease at ht
  split at ht <;> cases ht
  rfl

theorem execMillisecondTimeStep_channels {s t : State} (ht : execMillisecondTimeStep s = .next t) :
    t.channels = s.channels := by
  obtain ⟨-, ho⟩ | ⟨-, -, ho⟩ | ⟨-, -, ho⟩ := execMillisecondTimeStep_cases s
  · rw [next_eq_of_eq ho ht]
  · rw [ho] at ht
    cases ht
  · rw [next_eq_of_eq ho ht]

theorem execTurnExpiry_channels {s t : State} (ht : execTurnExpiry s = .next t) : t.channels = s.channels := by
  obtain ⟨-, ho⟩ | ⟨-, g, d, -, ho⟩ | ⟨-, g, d, -, ho⟩ := execTurnExpiry_cases s <;>
    rw [next_eq_of_eq ho ht] <;> simp

theorem execVoteDeadline_channels {s t : State} (ht : execVoteDeadline s = .next t) : t.channels = s.channels := by
  obtain ⟨-, ho⟩ | ⟨-, ho⟩ := execVoteDeadline_cases s <;> rw [next_eq_of_eq ho ht]
  simp

section
variable {s t : State} {h : HostId} (hl : channelTableLaw s)
include hl

theorem channelTableLaw_leaseExpiry (ht : execLeaseExpiry h s = .next t) : channelTableLaw t := by
  obtain ⟨-, ho⟩ | ⟨-, ho⟩ := execLeaseExpiry_cases h s <;> rw [next_eq_of_eq ho ht]
  · exact channelTableLaw_teardown hl h _ _
  · exact hl

theorem channelTableLaw_transactionVoid (ht : execTransactionVoid h s = .next t) : channelTableLaw t := by
  unfold execTransactionVoid at ht
  dsimp only at ht
  split at ht
  · cases ht
    exact channelTableLaw_of_channels_eq (by simp [voidRead_channels]) hl
  · exact channelTableLaw_deselectAfterEvent hl ht

omit hl in
theorem channelTableLaw_deviceReset (ht : execDeviceReset s = .next t) : channelTableLaw t := by
  refine channelTableLaw_of_all_closed ?_
  cases ht
  rfl

/-- A request whose owner leaves the channels alone. -/
theorem channelTableLaw_endRequest_of_channels {which : Request → Bool} {owner : Link → State → State × Reply}
    (ho : ∀ l u, (owner l u).1.channels = u.channels) (ht : endRequest h which owner s = .next t) : channelTableLaw t :=
  channelTableLaw_endRequest hl (fun l u hu => channelTableLaw_of_channels_eq (ho l u) hu) ht

end

/-- Every command keeps the Channel Table in order. -/
theorem channelTableLaw_exec {c : Instr} {s t : State} (hl : channelTableLaw s) (ht : exec c s = .next t) :
    channelTableLaw t := by
  cases c with
  | deviceReset => exact channelTableLaw_deviceReset ht
  | selAsserted h => exact channelTableLaw_of_channels_eq (execSelAsserted_channels ht) hl
  | headerGoodCheck h b =>
    rw [exec, execHeaderGoodCheck] at ht
    exact channelTableLaw_headerEnd hl (fun r u => by simp [answerKind_channels]) ht
  | headerBadCheck h b =>
    rw [exec, execHeaderBadCheck] at ht
    exact channelTableLaw_headerEnd hl (fun r u => by simp) ht
  | deselectInDiscard h => exact channelTableLaw_deselectAfterEvent hl ht
  | transactionVoid h => exact channelTableLaw_transactionVoid hl ht
  | unknownRequest h =>
    rw [exec, execUnknownRequest] at ht
    exact channelTableLaw_endRequest hl (fun _ _ hu => hu) ht
  | join h =>
    rw [exec, execJoin] at ht
    exact channelTableLaw_endRequest hl (fun l _ hu => channelTableLaw_ownerJoin hu h l) ht
  | leave h =>
    rw [exec, execLeave] at ht
    exact channelTableLaw_endRequest hl (fun l _ hu => channelTableLaw_ownerLeave hu h l) ht
  | setLeasePeriod h =>
    rw [exec, execSetLeasePeriod] at ht
    exact channelTableLaw_endRequest_of_channels hl (ownerSetOwn_channels (fun _ _ => by simp) h _) ht
  | setAttentionMask h =>
    rw [exec, execSetAttentionMask] at ht
    exact channelTableLaw_endRequest_of_channels hl (ownerSetOwn_channels (fun _ _ => by simp) h _) ht
  | setCreditThreshold h =>
    rw [exec, execSetCreditThreshold] at ht
    exact channelTableLaw_endRequest_of_channels hl (ownerSetOwn_channels (storeThreshold_channels h) h _) ht
  | setReserveThreshold h =>
    rw [exec, execSetReserveThreshold] at ht
    exact channelTableLaw_endRequest_of_channels hl (ownerSetShared_channels (fun _ _ => by simp) h _) ht
  | setTurnWindow h =>
    rw [exec, execSetTurnWindow] at ht
    exact channelTableLaw_endRequest_of_channels hl (ownerSetShared_channels (fun _ _ => by simp) h _) ht
  | setVoteWindow h =>
    rw [exec, execSetVoteWindow] at ht
    exact channelTableLaw_endRequest_of_channels hl (ownerSetShared_channels (fun _ _ => by simp) h _) ht
  | setPrecedence h =>
    rw [exec, execSetPrecedence] at ht
    exact channelTableLaw_endRequest_of_channels hl (ownerSetShared_channels (fun _ _ => by simp) h _) ht
  | setQuotaCeiling h =>
    rw [exec, execSetQuotaCeiling] at ht
    exact channelTableLaw_endRequest_of_channels hl (ownerSetShared_channels (fun _ _ => by simp) h _) ht
  | get h b =>
    rw [exec, execGet] at ht
    exact channelTableLaw_headerEnd hl (fun r u => by simp [answerGet_channels]) ht
  | voteClear h =>
    rw [exec, execVoteClear] at ht
    exact channelTableLaw_endRequest hl (fun l _ hu => channelTableLaw_ownerVoteClear hu h l) ht
  | ack h =>
    rw [exec, execAck] at ht
    exact channelTableLaw_endRequest_of_channels hl (ownerAck_channels h) ht
  | fetchNotice h b =>
    rw [exec, execFetchNotice] at ht
    exact channelTableLaw_headerEnd hl (fun r u => by simp [answerFetchNotice_channels]) ht
  | fetchNoticeCommit h =>
    rw [exec, execFetchNoticeCommit] at ht
    exact channelTableLaw_endRead hl
      (fun c u hu => channelTableLaw_of_channels_eq (commitFetchNotice_channels h c u) hu) ht
  | readCounter h b =>
    rw [exec, execReadCounter] at ht
    exact channelTableLaw_headerEnd hl (fun r u => by simp [answerReadCounter_channels]) ht
  | readCounterCommit h =>
    rw [exec, execReadCounterCommit] at ht
    exact channelTableLaw_endRead hl
      (fun c u hu => channelTableLaw_of_channels_eq (commitReadCounter_channels h c u) hu) ht
  | openChannel h =>
    rw [exec, execOpenChannel] at ht
    exact channelTableLaw_endRequest hl (fun l _ hu => channelTableLaw_ownerOpenChannel hu h l) ht
  | closeChannel h =>
    rw [exec, execCloseChannel] at ht
    exact channelTableLaw_endRequest hl (fun l _ hu => channelTableLaw_ownerCloseChannel hu h l) ht
  | findChannel h b =>
    rw [exec, execFindChannel] at ht
    exact channelTableLaw_headerEnd hl (fun r u => by simp [answerFindChannel_channels]) ht
  | subscribe h =>
    rw [exec, execSubscribe] at ht
    exact channelTableLaw_endRequest hl (fun l _ hu => channelTableLaw_ownerSubscribe hu h l) ht
  | unsubscribe h =>
    rw [exec, execUnsubscribe] at ht
    exact channelTableLaw_endRequest hl (fun l _ hu => channelTableLaw_ownerUnsubscribe hu h l) ht
  | suspend h =>
    rw [exec, execSuspend] at ht
    exact channelTableLaw_endRequest_of_channels hl (ownerRest_channels h _) ht
  | resume h =>
    rw [exec, execResume] at ht
    exact channelTableLaw_endRequest_of_channels hl (ownerRest_channels h _) ht
  | begin h =>
    rw [exec, execBegin] at ht
    exact channelTableLaw_endRequest hl (fun l _ hu => channelTableLaw_ownerBegin hu h l) ht
  | put h =>
    rw [exec, execPut] at ht
    exact channelTableLaw_endRequest_of_channels hl (ownerPut_channels h) ht
  | sealMsg h =>
    rw [exec, execSeal] at ht
    exact channelTableLaw_endRequest hl (fun l _ hu => channelTableLaw_ownerSeal hu h l) ht
  | abort h =>
    rw [exec, execAbort] at ht
    exact channelTableLaw_endRequest hl (fun l _ hu => channelTableLaw_ownerAbort hu h l) ht
  | take h b =>
    rw [exec, execTake] at ht
    exact channelTableLaw_headerEnd hl (fun r u => by simp [answerTake_channels]) ht
  | takeCommit h =>
    rw [exec, execTakeCommit] at ht
    exact channelTableLaw_endRead hl (fun c _ hu => channelTableLaw_commitTake hu h c) ht
  | skip h =>
    rw [exec, execSkip] at ht
    exact channelTableLaw_endRequest hl (fun l _ hu => channelTableLaw_ownerSkip hu h l) ht
  | leaseExpiry h => exact channelTableLaw_leaseExpiry hl ht
  | turnExpiry => exact channelTableLaw_of_channels_eq (execTurnExpiry_channels ht) hl
  | voteDeadline => exact channelTableLaw_of_channels_eq (execVoteDeadline_channels ht) hl
  | headerByteArrival h b => exact channelTableLaw_of_channels_eq (execHeaderByteArrival_channels ht) hl
  | payloadByteArrival h b => exact channelTableLaw_of_channels_eq (execPayloadByteArrival_channels ht) hl
  | responseByteArrival h => exact channelTableLaw_of_channels_eq (execResponseByteArrival_channels ht) hl
  | selectSeen h => exact channelTableLaw_of_channels_eq (execSelectSeen_channels ht) hl
  | resetRelease => exact channelTableLaw_of_channels_eq (execResetRelease_channels ht) hl
  | millisecondTimeStep => exact channelTableLaw_of_channels_eq (execMillisecondTimeStep_channels ht) hl
  | getCommit h =>
    rw [exec, execGetCommit] at ht
    exact channelTableLaw_endRead hl (fun _ _ hu => hu) ht
  | findChannelCommit h =>
    rw [exec, execFindChannelCommit] at ht
    exact channelTableLaw_endRead hl (fun _ _ hu => hu) ht
  | setReadOnlyValue h =>
    rw [exec, execSetReadOnlyValue] at ht
    exact channelTableLaw_endRequest hl (fun _ _ hu => hu) ht

/-- Settles O54: a step is the command at the front, or nothing. -/
theorem stepKeepsChannelTable : Obligations.StepKeepsChannelTable := by
  intro s t hl ht
  unfold step at ht
  split at ht
  · cases ht
    exact hl
  · next c rest _ =>
    exact channelTableLaw_exec (s := { s with pending := rest }) (channelTableLaw_of_channels_eq rfl hl) ht

end Sys2Proof.Machine
end

section
/-! SUPPORT. The shared operations against the relations of the statements: each operation does what the rule that owns it
says (R19, R80, R45, R100, R154, R162, R163). -/

namespace Sys2Proof.Machine

/-! ## Desks -/

@[simp] theorem Desk.signalled_false (d : Desk) : d.signalled false false = d := by
  simp [Desk.signalled]

theorem Desk.signalled_signalled (d : Desk) (a b : Bool) : (d.signalled false b).signalled a false = d.signalled a b := by
  simp [Desk.signalled]

theorem Desk.turnLatched_eq (d : Desk) : d.turnLatched = d.signalled false true := by
  simp [Desk.turnLatched, Desk.signalled]

/-! ## A freeing (R19) -/

/-- A credit that is not 0 leaves a clear mark clear, and a set one set below the threshold; a mark that is lifted
latches CREDIT (R11). -/
theorem judgeMark_of_credit {h : HostId} {s : State} (h0 : s.credit h ≠ 0) :
    ((judgeMark h s).accounts.read h).exhausted =
        ((s.accounts.read h).exhausted && decide (s.credit h < (s.members.read h).creditThreshold))
      ∧ (judgeMark h s).desks.read h =
        (s.desks.read h).signalled ((s.accounts.read h).exhausted && !((judgeMark h s).accounts.read h).exhausted)
          false := by
  rw [judgeMark_eq]
  cases hx : (s.accounts.read h).exhausted with
  | false => simp [h0, hx]
  | true =>
    by_cases hc : (s.members.read h).creditThreshold ≤ s.credit h
    · simp [h0, hc, Nat.not_lt.2 hc, Desk.signalled]
    · simp [h0, hc, Nat.not_le.1 hc, hx]

/-- A charge that falls: the mark of a JOINED host whose credit changes is judged, and no other (R8, R11). -/
theorem setCharge_lower {h : HostId} {c : Nat} {s : State} (hc : c ≤ (s.accounts.read h).charge) (g : HostId) :
    (((setCharge h c s).accounts.read g).exhausted =
        if s.isJoined g = true ∧ (setCharge h c s).credit g ≠ s.credit g then
          (s.accounts.read g).exhausted && decide ((setCharge h c s).credit g < (s.members.read g).creditThreshold)
        else (s.accounts.read g).exhausted)
      ∧ (setCharge h c s).desks.read g = (s.desks.read g).signalled
        ((s.accounts.read g).exhausted && !((setCharge h c s).accounts.read g).exhausted) false := by
  by_cases hg : g = h
  · subst hg
    obtain ⟨hquota, hcharge⟩ := setCharge_account g c s
    have hcredit : (setCharge g c s).credit g = (s.accounts.read g).quota - c := by
      rw [State.credit, Account.credit, hquota, hcharge]
    have hold : s.credit g = (s.accounts.read g).quota - (s.accounts.read g).charge := rfl
    let u : State := { s with accounts := s.accounts.write g { s.accounts.read g with charge := c } }
    have hu : u.accounts.read g = { s.accounts.read g with charge := c } := Table.read_write_self _ _ _
    have hnew : u.credit g = (s.accounts.read g).quota - c := by rw [State.credit, hu]; rfl
    have hset : setCharge g c s =
        if (s.accounts.read g).quota - c ≠ s.credit g ∧ s.isJoined g = true then judgeMark g u else u :=
      setCharge_eq g c s
    rw [hcredit]
    by_cases hj : (s.accounts.read g).quota - c ≠ s.credit g ∧ s.isJoined g = true
    · have h0 : u.credit g ≠ 0 := by omega
      obtain ⟨hmark, hdesk⟩ := judgeMark_of_credit h0
      rw [hset, if_pos hj, if_pos hj.symm, hdesk, hmark, hu, hnew]
      exact ⟨rfl, rfl⟩
    · rw [hset, if_neg hj, if_neg (mt And.symm hj), hu]
      simp [u]
  · obtain ⟨ha, hd⟩ := setCharge_others c s hg
    simp [ha, hd, State.credit]

theorem returnCells_freeList (l : List CellId) (s : State) : (returnCells l s).freeList = s.freeList ++ l := rfl

/-- The state after a message's cells have returned: the rationed flag is re-evaluated if there were any (R4, R110). -/
def afterReturn (m : MsgId) (s : State) : State :=
  if s.chainOf m = [] then s else reevaluate (returnCells (s.chainOf m) s)

theorem freeMessage_eq (m : MsgId) (s : State) :
    freeMessage m s =
      ((setCharge (s.messages.read m).publisher
        (((afterReturn m s).accounts.read (s.messages.read m).publisher).charge - (s.messages.read m).cellCount)
        (afterReturn m s)).modMessage m (fun _ => Message.vacant)).modChannel (s.messages.read m).channel
          Channel.lessOne := rfl

@[simp] theorem afterReturn_frame (m : MsgId) (s : State) :
    (afterReturn m s).accounts = s.accounts ∧ (afterReturn m s).messages = s.messages
      ∧ (afterReturn m s).channels = s.channels ∧ (afterReturn m s).members = s.members := by
  unfold afterReturn
  split <;> simp

/-- What the return of a message's cells leaves in the pool and with the arbiter (R4, R109, R112). -/
theorem afterReturn_eq (m : MsgId) (s : State) : ∃ d,
    let rationed := if s.chainOf m = [] then s.rationed else rationedAfter s (s.freeList.length + (s.chainOf m).length)
    let ends := s.rationed && !rationed
    afterReturn m s = { s with
        cells := (returnCells (s.chainOf m) s).cells, freeList := s.freeList ++ s.chainOf m, rationed := rationed
        turn := if ends then .none else s.turn, claimants := if ends then noHosts else s.claimants, desks := d }
      ∧ ∀ g, d.read g =
        (s.desks.read g).signalled false (ends && (s.claimants.read g || s.turn.isGrantedTo g)) := by
  by_cases hc : s.chainOf m = []
  · refine ⟨s.desks, ?_, by simp [hc]⟩
    simp [afterReturn, hc, returnCells]
  · obtain ⟨d, hd, hg⟩ := reevaluate_eq (returnCells (s.chainOf m) s)
    have hr : rationedAfter (returnCells (s.chainOf m) s) (returnCells (s.chainOf m) s).freeList.length =
        rationedAfter s (s.freeList.length + (s.chainOf m).length) := by
      simp [rationedAfter, returnCells_freeList]
    rw [hr] at hd hg
    refine ⟨d, ?_, fun g => ?_⟩
    · simp only [afterReturn, hc, if_false]
      rw [hd, returnCells_eq]
    · rw [hg g]
      simp only [hc, if_false, returnCells_frame]
      split
      · next ht => rw [ht, Desk.turnLatched_eq]
      · next ht => rw [Bool.eq_false_of_not_eq_true ht, Desk.signalled_false]

/-- A freeing is what R19 says. -/
theorem freed_freeMessage (m : MsgId) (s : State) : Freed m s (freeMessage m s) := by
  obtain ⟨d, ht, hdesks⟩ := afterReturn_eq m s
  have hmark := setCharge_lower (h := (s.messages.read m).publisher) (s := afterReturn m s)
    (Nat.sub_le ((afterReturn m s).accounts.read (s.messages.read m).publisher).charge (s.messages.read m).cellCount)
  have hd : (afterReturn m s).desks = d := by rw [ht]
  have hcredit : ∀ g, (afterReturn m s).credit g = s.credit g := fun g => by simp [State.credit]
  have hjoined : ∀ g, (afterReturn m s).isJoined g = s.isJoined g := fun g => by simp [State.isJoined]
  constructor
  case messages => simp [freeMessage_eq, Table.update]
  case freeList => simp [freeMessage_eq, ht]
  case cells =>
    intro c
    simp [freeMessage_eq, ht, returnCells_cells]
  case quota =>
    intro h
    by_cases hh : h = (s.messages.read m).publisher
    · simp [freeMessage_eq, hh, setCharge_account]
    · simp [freeMessage_eq, setCharge_others _ _ hh]
  case charge =>
    intro h
    by_cases hh : h = (s.messages.read m).publisher
    · simp [freeMessage_eq, hh, setCharge_account]
    · simp [freeMessage_eq, setCharge_others _ _ hh, hh]
  case mark =>
    intro h
    have haccounts := congrArg State.accounts (freeMessage_eq m s)
    simp only [State.modChannel_accounts, State.modMessage_accounts] at haccounts
    have hnew : ∀ g, (freeMessage m s).credit g = ((freeMessage m s).accounts.read g).credit := fun g => rfl
    have h1 := (hmark h).1
    rw [State.credit, ← haccounts, ← hnew, hcredit, hjoined, (afterReturn_frame m s).1,
      (afterReturn_frame m s).2.2.2] at h1
    exact h1
  case channels =>
    intro c
    by_cases hc : c = (s.messages.read m).channel
    · simp [freeMessage_eq, hc, Channel.lessOne_eq]
    · simp [freeMessage_eq, hc, Table.read_update]
  case rationed => simp [freeMessage_eq, ht]
  case turn => simp [freeMessage_eq, ht]
  case claimants => simp [freeMessage_eq, ht]
  case frame => simp
  case desks =>
    intro h
    have h2 := (hmark h).2
    rw [hd, hdesks h, Desk.signalled_signalled, (afterReturn_frame m s).1] at h2
    simpa [freeMessage_eq, ht] using h2

end Sys2Proof.Machine
end

section
/-! SUPPORT. The events of a teardown against the relations of the statements (R45, R80, R100, R162, R163). -/

namespace Sys2Proof.Machine

/-! ## Releases and aborts -/

theorem released_release (m : MsgId) (s : State) : Released m s (release m s) := by
  unfold Released
  rw [release_eq]
  dsimp only
  split
  · exact freed_freeMessage m _
  · rfl

theorem endTurn_eq_turnPassed (s : State) : endTurn s = s.turnPassed := by
  unfold State.turnPassed
  obtain ⟨hn, he⟩ | ⟨h, hn, he⟩ := endTurn_cases s <;> rw [hn, he]

theorem endTurnOf_eq_turnEnded (h : HostId) (s : State) : endTurnOf h s = s.turnEnded h := by
  unfold endTurnOf State.turnEnded
  cases s.turn <;> simp [endTurn_eq_turnPassed]

theorem satIncrement_eq_counted (n : BitVec 32) : satIncrement n = counted n := rfl

theorem countAbort_eq (h : HostId) (s : State) :
    countAbort h s = s.setDesk h { s.desks.read h with
      counters := { (s.desks.read h).counters with aborted := counted (s.desks.read h).counters.aborted } } := by
  simp [countAbort, State.modCounters, State.modDesk, State.setDesk, Table.update, satIncrement_eq_counted]

/-- The state of a message at its abort: a STREAMING one is ABORTED before its hold is dropped (R80). -/
def State.markAborted (s : State) (m : MsgId) : State :=
  let x := s.messages.read m
  { s with messages := s.messages.write m { x with state := if x.mode = .streaming then .aborted else x.state } }

theorem abortMessage_eq (m : MsgId) (s : State) :
    abortMessage m s =
      endTurnOf (s.messages.read m).publisher
        (countAbort (s.messages.read m).publisher (release m (s.markAborted m))) := by
  by_cases hm : (s.messages.read m).mode = .streaming
  · simp [abortMessage, State.markAborted, hm, State.modMessage, Table.update]
  · have hs : s.markAborted m = s := by
      unfold State.markAborted
      dsimp only
      rw [if_neg hm]
      show { s with messages := s.messages.write m (s.messages.read m) } = s
      rw [Table.write_read]
    rw [hs, abortMessage]
    cases hx : (s.messages.read m).mode with
    | streaming => exact absurd hx hm
    | none | whole => rfl

/-- An abort is what R80 says. -/
theorem aborted_abortMessage (m : MsgId) (s : State) : Aborted m s (abortMessage m s) := by
  refine ⟨release m (s.markAborted m), released_release m _, ?_⟩
  rw [abortMessage_eq, endTurnOf_eq_turnEnded, countAbort_eq]

/-! ## Subscriptions and entries -/

/-- A freed subscription is what R49 says. -/
theorem unsubscribed_freeSubscription (i : SubId) (s : State) : Unsubscribed i s (freeSubscription i s) := by
  refine ⟨by simp [freeSubscription, State.modChannel, State.modSub, Table.update], fun e => ?_⟩
  simp [freeSubscription, Entry.forget]

/-- The state of a removal before the entry's reference is released. -/
def State.unqueued (s : State) (h : HostId) (e : EntryId) : State :=
  { s with
    queues := s.queues.write h ((s.queues.read h).erase e)
    entries := s.entries.write e Entry.free
    subs := match (s.entries.read e).subscription with
      | some i => s.subs.write i { s.subs.read i with queued := (s.subs.read i).queued - 1 }
      | none => s.subs }

theorem removeEntry_eq (h : HostId) (e : EntryId) (s : State) :
    removeEntry h e s = release (s.entries.read e).message (s.unqueued h e) := by
  unfold removeEntry State.unqueued
  cases hs : (s.entries.read e).subscription <;> simp only [hs] <;> rfl

/-- A removed entry is what R100 and R105 say. -/
theorem removed_removeEntry (h : HostId) (e : EntryId) (s : State) : Removed h e s (removeEntry h e s) := by
  rw [removeEntry_eq]
  exact released_release _ _

/-- A fold of parts is their chain. -/
theorem chain_foldl {α : Type} {part : α → State → State → Prop} {f : State → α → State}
    (hf : ∀ s a, part a s (f s a)) (l : List α) (s : State) : Chain part l s (l.foldl f s) := by
  induction l generalizing s with
  | nil => rfl
  | cons a l ih => exact ⟨f s a, hf s a, ih (f s a)⟩

/-! ## The exchange clear and the vote -/

theorem desks_trans {s t u : State} (hst : t = { s with desks := t.desks }) (htu : u = { t with desks := u.desks }) :
    u = { s with desks := u.desks } :=
  calc u = { t with desks := u.desks } := htu
    _ = { ({ s with desks := t.desks } : State) with desks := u.desks } := by rw [← hst]

/-- A fold changes nothing but the desks if each of its steps does. -/
theorem foldl_desks {α : Type} {f : State → α → State} (hf : ∀ s a, f s a = { s with desks := (f s a).desks })
    (l : List α) (s : State) : l.foldl f s = { s with desks := (l.foldl f s).desks } := by
  induction l generalizing s with
  | nil => rfl
  | cons a l ih =>
    exact desks_trans (hf s a) (ih (f s a))

theorem post_desks (h : HostId) (n : Notice) (s : State) : post h n s = { s with desks := (post h n s).desks } := by
  rw [post_eq]
  split <;> rfl

/-- A notice to every JOINED host is what R168 says, host by host. -/
theorem toldAll_postAll (n : Notice) (s : State) : ToldAll n s (postAll n s) :=
  ⟨foldl_desks (fun s h => post_desks h n s) allHosts s, postAll_desks n s⟩

/-- Step 7 of R163 for one host: EXCHANGE_CLEARED posted and READY latched. -/
def announceClear (s : State) (h : HostId) : State := latch h .ready (post h .exchangeCleared s)

/-- The desk of a JOINED host after step 7 of R163. -/
def Desk.clearAnnounced (d : Desk) : Desk :=
  { d.posted .exchangeCleared with latches := (d.posted .exchangeCleared).latches.latch .ready }

theorem announceClear_desks (s : State) (h : HostId) :
    announceClear s h = { s with desks := (announceClear s h).desks } := by
  unfold announceClear
  rw [post_desks]
  rfl

theorem announceClear_eq {s : State} {h : HostId} (hj : s.isJoined h = true) :
    announceClear s h = s.setDesk h (s.desks.read h).clearAnnounced := by
  simp [announceClear, post_eq, hj, latch, State.setDesk, State.modDesk, Table.update, Desk.clearAnnounced]

/-- The announcement to each host of a list of JOINED hosts, none of them twice. -/
theorem foldl_announceClear_desks (l : List HostId) (hl : l.Nodup) (s : State) (hj : ∀ h ∈ l, s.isJoined h = true)
    (g : HostId) :
    (l.foldl announceClear s).desks.read g = if g ∈ l then (s.desks.read g).clearAnnounced else s.desks.read g := by
  induction l generalizing s with
  | nil => simp
  | cons a l ih =>
    obtain ⟨ha, hl'⟩ := List.nodup_cons.1 hl
    rw [List.foldl_cons, announceClear_eq (hj a List.mem_cons_self), ih hl' _ fun h hh => ?_]
    · by_cases hg : g = a
      · subst hg
        simp [ha, State.setDesk]
      · simp [hg, State.setDesk, Table.read_write]
    · exact hj h (List.mem_cons_of_mem a hh)

/-- The state of an exchange clear before it is announced. -/
def State.cleared (s : State) : State :=
  let t := reevaluate { clearTables s with turn := .none, claimants := noHosts, lastServed := none }
  { t with vote := none, links := t.links.mapAll Link.voidByEvent, desks := t.desks.mapAll (fun _ => Desk.empty) }

theorem exchangeClear_eq (s : State) :
    exchangeClear s = (allHosts.filter s.cleared.isJoined).foldl announceClear s.cleared := rfl

theorem exchangeClear_eq_desks (s : State) :
    exchangeClear s = { s.cleared with desks := (exchangeClear s).desks } := by
  rw [exchangeClear_eq]
  exact foldl_desks announceClear_desks _ _

theorem cutOff_eq_voidByEvent (l : Link) : l.cutOff = l.voidByEvent := by
  unfold Link.cutOff Link.voidByEvent
  cases l.phase <;> simp [Phase.inFlight]

/-- What an exchange clear leaves before it is announced (R163). -/
theorem cleared_eq (s : State) :
    s.cleared = { clearTables s with
      turn := .none, claimants := noHosts, lastServed := none, rationed := rationedAfter s 512, vote := none
      links := s.links.mapAll Link.cutOff, desks := Vector.replicate 4 Desk.empty } := by
  obtain ⟨d, hd, -⟩ :=
    reevaluate_eq { clearTables s with turn := .none, claimants := noHosts, lastServed := none }
  have hlinks : s.links.mapAll Link.voidByEvent = s.links.mapAll Link.cutOff :=
    Table.ext fun h => by simp [cutOff_eq_voidByEvent]
  have hdesks : d.mapAll (fun _ => Desk.empty) = Vector.replicate 4 Desk.empty := Table.ext fun h => by simp
  unfold State.cleared
  rw [hd]
  simp [hlinks, hdesks, rationedAfter, clearTables]

/-- An exchange clear is what R163 says. -/
theorem cleared_exchangeClear (s : State) : Cleared s (exchangeClear s) := by
  have hj : ∀ g, s.cleared.isJoined g = s.isJoined g := fun g => by rw [cleared_eq]; simp [State.isJoined]
  have hempty : ∀ g, s.cleared.desks.read g = Desk.empty := fun g => by rw [cleared_eq]; simp
  have hd : ∀ g, (exchangeClear s).desks.read g =
      if s.isJoined g = true then Desk.empty.clearAnnounced else Desk.empty := by
    intro g
    rw [exchangeClear_eq, foldl_announceClear_desks _ (List.Nodup.filter _ (by decide)) _ (by simp)]
    simp [hj, hempty]
  have he := exchangeClear_eq_desks s
  rw [cleared_eq] at he
  constructor
  case pool => rw [he]; simp [clearTables]
  case accounts => rw [he]; simp [clearTables]
  case tables => rw [he]; simp [clearTables]
  case turn => rw [he]; simp
  case vote => rw [he]
  case links => rw [he]; simp
  case desks =>
    intro g
    rw [hd g]
    rfl
  case frame => simp

theorem noHosts_iff (v : HostSet) : v = noHosts ↔ ∀ g, v.read g = false :=
  ⟨fun h g => by rw [h, noHosts_read], fun h => Table.ext fun g => by rw [h g, noHosts_read]⟩

theorem joinedHosts_iff (s : State) (v : HostSet) : v = s.joinedHosts ↔ ∀ g, v.read g = s.isJoined g :=
  ⟨fun h g => by rw [h, joinedHosts_read], fun h => Table.ext fun g => by rw [h g, joinedHosts_read]⟩

/-- A judgement of the vote is what R162 says. -/
theorem voteJudged_judgeVote (s : State) : VoteJudged s (judgeVote s) := by
  unfold VoteJudged judgeVote
  cases s.vote with
  | none => rfl
  | some v =>
    simp only [noHosts_iff, joinedHosts_iff]
    split
    · exact toldAll_postAll _ _
    · split
      · exact cleared_exchangeClear _
      · rfl

end Sys2Proof.Machine
end

section
/-! SUPPORT. The first nine steps of a teardown (R154): their stages, the relation of the statement, and what is left of
the host. -/

namespace Sys2Proof.Machine

/-! ## What the events leave of single tables -/

theorem release_subs (m : MsgId) (s : State) : (release m s).subs = s.subs := by simp

theorem release_entries (m : MsgId) (s : State) : (release m s).entries = s.entries := by simp

theorem release_queues (m : MsgId) (s : State) : (release m s).queues = s.queues := by simp

theorem freeSubscriptionsOf_queues (h : HostId) (s : State) : (freeSubscriptionsOf h s).queues = s.queues := by simp

theorem freeSubscriptionsOf_messages (h : HostId) (s : State) : (freeSubscriptionsOf h s).messages = s.messages := by
  simp

theorem endTurnOf_accounts (h : HostId) (s : State) : (endTurnOf h s).accounts = s.accounts := by simp

theorem countAbort_accounts (h : HostId) (s : State) : (countAbort h s).accounts = s.accounts := by simp

theorem withdraw_accounts (h : HostId) (s : State) : (withdraw h s).accounts = s.accounts := by simp

theorem withdraw_messages (h : HostId) (s : State) : (withdraw h s).messages = s.messages := by simp

/-! ## The stages -/

/-- After steps 1 and 2 of R154: no subscription, and an empty delivery queue. -/
def State.unsubscribed (s : State) (h : HostId) : State :=
  removeEntries h (s.queues.read h) (freeSubscriptionsOf h s)

/-- After steps 3 and 4 of R154: no FILLING message, no claim and no turn. -/
def State.silenced (s : State) (h : HostId) : State := withdraw h (abortFillingOf h (s.unsubscribed h))

theorem dismantle_eq (h : HostId) (final : Membership) (s : State) :
    dismantle h final s =
      let d := s.silenced h
      { d with
        channels := d.channels.mapAll (Channel.disown h)
        desks := d.desks.write h { d.desks.read h with notices := [], lost := 0, latches := Latches.clear }
        links := d.links.write h (d.links.read h).cutOff
        members := d.members.write h { d.members.read h with state := final, leaseDeadline := none }
        accounts := d.accounts.write h { d.accounts.read h with exhausted := false } } := by
  simp [dismantle, State.silenced, State.unsubscribed, clearLatches, clearNotices, State.modDesk, State.modLink,
    State.modMember, State.modAccount, Table.update, cutOff_eq_voidByEvent]

/-- A withdrawal (R121), in the words of the statements. -/
theorem withdraw_eq (h : HostId) (c : State) :
    withdraw h c =
      let u := { c with claimants := HostSet.erase c.claimants h }
      if u.turn.holder = some h then u.turnPassed else u := by
  simp only [withdraw, endTurn_eq_turnPassed]

/-- Steps 1 to 9 of a teardown are what R154 says. -/
theorem dismantled_dismantle (h : HostId) (final : Membership) (s : State) :
    Dismantled h final s (dismantle h final s) := by
  refine ⟨freeSubscriptionsOf h s, s.unsubscribed h, abortFillingOf h (s.unsubscribed h), ?_, ?_, ?_, ?_, ?_⟩
  · exact chain_foldl (fun s i => unsubscribed_freeSubscription i s) _ s
  · exact chain_foldl (fun s e => removed_removeEntry h e s) _ _
  · intro m hm
    rw [abortFillingOf, hm]
    exact aborted_abortMessage m _
  · intro hn
    rw [abortFillingOf, hn]
  · dsimp only
    rw [← withdraw_eq, ← State.silenced, dismantle_eq]
    exact ⟨rfl, fun k => by simp [Channel.disown]⟩

/-! ## Subscriptions -/

theorem foldl_freeSubscription_subs (l : List SubId) (s : State) (i : SubId) :
    (l.foldl (fun s i => freeSubscription i s) s).subs.read i =
      if i ∈ l then Subscription.free else s.subs.read i := by
  induction l generalizing s with
  | nil => simp
  | cons a l ih =>
    rw [List.foldl_cons, ih]
    by_cases hi : i ∈ l
    · simp [hi]
    · by_cases ha : i = a
      · subst ha
        simp [hi, freeSubscription]
      · simp [hi, ha, freeSubscription, Table.read_update]

/-- Step 1 of R154 frees the host's subscriptions, and no other. -/
theorem freeSubscriptionsOf_subs (h : HostId) (s : State) (i : SubId) :
    (freeSubscriptionsOf h s).subs.read i =
      if (s.subs.read i).state ≠ .free ∧ (s.subs.read i).owner = h then Subscription.free else s.subs.read i := by
  unfold freeSubscriptionsOf
  rw [foldl_freeSubscription_subs]
  simp

/-- A freed subscription leaves which entries are in use, and for which message. -/
theorem freeSubscriptionsOf_entries (h : HostId) (s : State) (e : EntryId) :
    ((freeSubscriptionsOf h s).entries.read e).message = (s.entries.read e).message := by
  unfold freeSubscriptionsOf
  refine foldl_keeps (fun s : State => (s.entries.read e).message) _ _ s fun s i => ?_
  simp only [freeSubscription, State.modSub_entries, State.modChannel_entries, Table.read_mapAll, Entry.forget]
  split <;> rfl

/-- The removal of an entry counts a subscription's deliveries down, and changes no subscription's state. -/
theorem removeEntry_subState (h : HostId) (e : EntryId) (s : State) (i : SubId) :
    ((removeEntry h e s).subs.read i).state = (s.subs.read i).state := by
  rw [removeEntry_eq, release_subs]
  unfold State.unqueued
  cases (s.entries.read e).subscription with
  | none => rfl
  | some j =>
    by_cases hi : i = j
    · simp [hi]
    · simp [hi, Table.read_write]

/-- After steps 1 and 2 of R154 every record of the host is FREE. -/
theorem unsubscribed_subState {h : HostId} {s : State} {i : SubId} (hi : (s.subs.read i).owner = h) :
    ((s.unsubscribed h).subs.read i).state = .free := by
  unfold State.unsubscribed removeEntries
  rw [foldl_keeps (fun s : State => (s.subs.read i).state) _ _ _ fun s e => removeEntry_subState h e s i,
    freeSubscriptionsOf_subs]
  by_cases hf : (s.subs.read i).state = .free <;> simp [hf, hi, Subscription.free]

/-! ## The delivery queue -/

theorem removeEntry_queues (h : HostId) (e : EntryId) (s : State) :
    (removeEntry h e s).queues = s.queues.write h ((s.queues.read h).erase e) := by
  rw [removeEntry_eq, release_queues]
  rfl

theorem removeEntries_queues (h : HostId) (es : List EntryId) (s : State) :
    (removeEntries h es s).queues = s.queues.write h (es.foldl List.erase (s.queues.read h)) := by
  unfold removeEntries
  induction es generalizing s with
  | nil => simp
  | cons e es ih => rw [List.foldl_cons, ih, removeEntry_queues]; simp

theorem foldl_erase_self (l : List EntryId) : l.foldl List.erase l = [] := by
  induction l with
  | nil => rfl
  | cons a l ih => rw [List.foldl_cons, List.erase_cons_head, ih]

/-- Step 2 of R154 empties the host's queue, and no other. -/
theorem unsubscribed_queues (h : HostId) (s : State) : (s.unsubscribed h).queues = s.queues.write h [] := by
  unfold State.unsubscribed
  rw [removeEntries_queues, freeSubscriptionsOf_queues, foldl_erase_self]

/-! ## What a desk keeps through events that latch alone -/

/-- The notices, the lost count and the counters of a desk. -/
def Desk.ledger (d : Desk) : List Notice × Nat × Counters := (d.notices, d.lost, d.counters)

@[simp] theorem Desk.signalled_ledger (d : Desk) (a b : Bool) : (d.signalled a b).ledger = d.ledger := rfl

@[simp] theorem Desk.turnLatched_ledger (d : Desk) : d.turnLatched.ledger = d.ledger := rfl

theorem freeMessage_ledger (m : MsgId) (s : State) (g : HostId) :
    ((freeMessage m s).desks.read g).ledger = (s.desks.read g).ledger := by
  rw [(freed_freeMessage m s).desks g, Desk.signalled_ledger]

theorem release_ledger (m : MsgId) (s : State) (g : HostId) :
    ((release m s).desks.read g).ledger = (s.desks.read g).ledger := by
  rw [release_eq]
  split
  · exact freeMessage_ledger m _ g
  · rfl

theorem turnPassed_ledger (s : State) (g : HostId) : (s.turnPassed.desks.read g).ledger = (s.desks.read g).ledger := by
  unfold State.turnPassed
  split
  · next n _ =>
    by_cases hg : g = n
    · simp [hg]
    · simp [hg, Table.read_write]
  · rfl

theorem turnEnded_ledger (h : HostId) (s : State) (g : HostId) :
    ((s.turnEnded h).desks.read g).ledger = (s.desks.read g).ledger := by
  unfold State.turnEnded
  split
  · split
    · exact turnPassed_ledger s g
    · rfl
  · rfl

theorem withdraw_ledger (h : HostId) (s : State) (g : HostId) :
    ((withdraw h s).desks.read g).ledger = (s.desks.read g).ledger := by
  rw [withdraw_eq]
  dsimp only
  split
  · exact turnPassed_ledger _ g
  · rfl

theorem removeEntry_ledger (h : HostId) (e : EntryId) (s : State) (g : HostId) :
    ((removeEntry h e s).desks.read g).ledger = (s.desks.read g).ledger := by
  rw [removeEntry_eq, release_ledger]
  rfl

theorem unsubscribed_ledger (h : HostId) (s : State) (g : HostId) :
    ((s.unsubscribed h).desks.read g).ledger = (s.desks.read g).ledger := by
  unfold State.unsubscribed removeEntries
  rw [foldl_keeps (fun s : State => (s.desks.read g).ledger) _ _ _ fun s e => removeEntry_ledger h e s g]
  simp

/-- An abort advances ABORTED of the publisher, and nothing else of any ledger. -/
theorem abortMessage_ledger (m : MsgId) (s : State) (g : HostId) :
    ((abortMessage m s).desks.read g).ledger =
      if g = (s.messages.read m).publisher then
        ((s.desks.read g).notices, (s.desks.read g).lost,
          { (s.desks.read g).counters with aborted := counted (s.desks.read g).counters.aborted })
      else (s.desks.read g).ledger := by
  have hr : ((release m (s.markAborted m)).desks.read g).ledger = (s.desks.read g).ledger :=
    release_ledger m (s.markAborted m) g
  rw [abortMessage_eq, endTurnOf_eq_turnEnded, turnEnded_ledger, countAbort_eq, State.setDesk, Table.read_write]
  split
  · next hg =>
    rw [← hg]
    simp only [Desk.ledger, Prod.mk.injEq] at hr ⊢
    obtain ⟨hn, hl, hc⟩ := hr
    exact ⟨hn, hl, by rw [hc]⟩
  · exact hr

/-! ## Quotas -/

theorem release_quota (m : MsgId) (s : State) (g : HostId) :
    ((release m s).accounts.read g).quota = (s.accounts.read g).quota := by
  rw [release_eq]
  split
  · exact (freed_freeMessage m _).quota g
  · rfl

theorem removeEntry_quota (h : HostId) (e : EntryId) (s : State) (g : HostId) :
    ((removeEntry h e s).accounts.read g).quota = (s.accounts.read g).quota := by
  rw [removeEntry_eq, release_quota]
  rfl

theorem abortMessage_quota (m : MsgId) (s : State) (g : HostId) :
    ((abortMessage m s).accounts.read g).quota = (s.accounts.read g).quota := by
  rw [abortMessage_eq, endTurnOf_accounts, countAbort_accounts, release_quota]
  rfl

theorem unsubscribed_quota (h : HostId) (s : State) (g : HostId) :
    ((s.unsubscribed h).accounts.read g).quota = (s.accounts.read g).quota := by
  unfold State.unsubscribed removeEntries
  rw [foldl_keeps (fun s : State => (s.accounts.read g).quota) _ _ _ fun s e => removeEntry_quota h e s g]
  simp

theorem silenced_quota (h : HostId) (s : State) (g : HostId) :
    ((s.silenced h).accounts.read g).quota = (s.accounts.read g).quota := by
  rw [State.silenced, withdraw_accounts, ← unsubscribed_quota h s g, abortFillingOf]
  split
  · exact abortMessage_quota _ _ g
  · rfl

/-! ## FILLING messages -/

/-- A message after entries have been removed, where it is still FILLING: it was FILLING before, for the same publisher
and in the same mode, with no fewer references. -/
def Message.FadesTo (x y : Message) : Prop :=
  y.state = .filling →
    x.state = .filling ∧ y.publisher = x.publisher ∧ y.mode = x.mode ∧ y.refCount ≤ x.refCount

theorem Message.FadesTo.refl (x : Message) : x.FadesTo x := fun h => ⟨h, rfl, rfl, le_rfl⟩

theorem Message.FadesTo.trans {x y z : Message} (hxy : x.FadesTo y) (hyz : y.FadesTo z) : x.FadesTo z := by
  intro h
  obtain ⟨hy, hp, hm, hr⟩ := hyz h
  obtain ⟨hx, hp', hm', hr'⟩ := hxy hy
  exact ⟨hx, hp.trans hp', hm.trans hm', hr.trans hr'⟩

theorem release_messages (m : MsgId) (s : State) :
    (release m s).messages = s.messages.write m
      (if (s.messages.read m).refCount - 1 = 0 then Message.vacant
        else { s.messages.read m with refCount := (s.messages.read m).refCount - 1 }) := by
  rw [release_eq]
  split
  · rw [(freed_freeMessage m _).messages, Table.write_write]
  · rfl

theorem removeEntry_messages (h : HostId) (e : EntryId) (s : State) :
    (removeEntry h e s).messages = s.messages.write (s.entries.read e).message
      (if (s.messages.read (s.entries.read e).message).refCount - 1 = 0 then Message.vacant
        else { s.messages.read (s.entries.read e).message with
          refCount := (s.messages.read (s.entries.read e).message).refCount - 1 }) := by
  rw [removeEntry_eq, release_messages]
  rfl

theorem removeEntry_fades (h : HostId) (e : EntryId) (s : State) (m : MsgId) :
    (s.messages.read m).FadesTo ((removeEntry h e s).messages.read m) := by
  rw [removeEntry_messages, Table.read_write]
  split
  · next hm =>
    subst hm
    split
    · intro hv
      cases hv
    · exact fun hf => ⟨hf, rfl, rfl, Nat.sub_le _ 1⟩
  · exact .refl _

theorem removeEntries_fades (h : HostId) (es : List EntryId) (s : State) (m : MsgId) :
    (s.messages.read m).FadesTo ((removeEntries h es s).messages.read m) := by
  unfold removeEntries
  exact foldl_invariant (P := fun t : State => (s.messages.read m).FadesTo (t.messages.read m))
    (fun t e ht => ht.trans (removeEntry_fades h e t m)) es (.refl _)

theorem unsubscribed_fades (h : HostId) (s : State) (m : MsgId) :
    (s.messages.read m).FadesTo ((s.unsubscribed h).messages.read m) := by
  have hf := removeEntries_fades h (s.queues.read h) (freeSubscriptionsOf h s) m
  rwa [freeSubscriptionsOf_messages] at hf

theorem fillingOf_some {s : State} {h : HostId} {m : MsgId} (hm : s.fillingOf h = some m) :
    (s.messages.read m).state = .filling ∧ (s.messages.read m).publisher = h := by
  simpa using Table.lowest_some hm

theorem fillingOf_none {s : State} {h : HostId} (hn : s.fillingOf h = none) (m : MsgId) :
    (s.messages.read m).state = .filling → (s.messages.read m).publisher ≠ h := by
  simpa using Table.lowest_none hn m

theorem abortMessage_messages (m : MsgId) (s : State) :
    (abortMessage m s).messages = (release m (s.markAborted m)).messages := by
  rw [abortMessage_eq]
  simp

/-- An abort changes the one record. -/
theorem abortMessage_others {m k : MsgId} (s : State) (hk : k ≠ m) :
    (abortMessage m s).messages.read k = s.messages.read k := by
  rw [abortMessage_messages, release_messages, Table.read_write_ne _ _ hk]
  exact Table.read_write_ne _ _ hk

/-- An aborted message is no longer FILLING, where the hold of a WHOLE one was its one reference (R80). -/
theorem abortMessage_not_filling {m : MsgId} {s : State}
    (hr : (s.messages.read m).mode ≠ .streaming → (s.messages.read m).refCount ≤ 1) :
    ((abortMessage m s).messages.read m).state ≠ .filling := by
  have hread : (s.markAborted m).messages.read m = { s.messages.read m with
      state := if (s.messages.read m).mode = .streaming then .aborted else (s.messages.read m).state } :=
    Table.read_write_self _ _ _
  rw [abortMessage_messages, release_messages, Table.read_write_self, hread]
  dsimp only
  by_cases hc : (s.messages.read m).refCount - 1 = 0
  · rw [if_pos hc]
    simp [Message.vacant]
  · have hm : (s.messages.read m).mode = .streaming := by
      by_contra hm
      exact hc (Nat.sub_eq_zero_of_le (hr hm))
    rw [if_neg hc, if_pos hm]
    simp

/-- Steps 1 to 4 of R154 leave the host no FILLING message. -/
theorem silenced_not_filling {h : HostId} {s : State} (hs : fillingLaw s) {m : MsgId}
    (hm : ((s.silenced h).messages.read m).state = .filling) :
    ((s.silenced h).messages.read m).publisher ≠ h := by
  rw [State.silenced, withdraw_messages] at hm ⊢
  unfold abortFillingOf at hm ⊢
  split at hm
  · next k hk =>
    obtain ⟨hkf, hkp⟩ := fillingOf_some hk
    obtain ⟨hkf', hkp', hkm, hkr⟩ := unsubscribed_fades h s k hkf
    have hkeep : ((s.unsubscribed h).messages.read k).mode ≠ .streaming →
        ((s.unsubscribed h).messages.read k).refCount ≤ 1 :=
      fun hmode => hkr.trans (hs.2 k hkf' (hkm ▸ hmode))
    by_cases hmk : m = k
    · subst hmk
      exact absurd hm (abortMessage_not_filling hkeep)
    · rw [abortMessage_others _ hmk] at hm ⊢
      intro hp
      obtain ⟨hmf', hmp', -, -⟩ := unsubscribed_fades h s m hm
      exact hmk ((hs.1 k hkf').2 m hmf' (by rw [← hmp', hp, ← hkp', hkp]))
  · next hn => exact fillingOf_none hn m hm

/-- Entries fewer than a message's references cannot free it: it keeps its state and its publisher. -/
theorem removeEntries_keeps_message (h : HostId) {m : MsgId} {es : List EntryId} (hnd : es.Nodup) {s : State}
    (hc : es.countP (fun e => (s.entries.read e).message == m) < (s.messages.read m).refCount) :
    ((removeEntries h es s).messages.read m).state = (s.messages.read m).state
      ∧ ((removeEntries h es s).messages.read m).publisher = (s.messages.read m).publisher := by
  unfold removeEntries
  induction es generalizing s with
  | nil => exact ⟨rfl, rfl⟩
  | cons e es ih =>
    obtain ⟨he, hnd'⟩ := List.nodup_cons.1 hnd
    have hrest : es.countP (fun x => ((removeEntry h e s).entries.read x).message == m) =
        es.countP (fun x => (s.entries.read x).message == m) := by
      refine List.countP_congr fun x hx => ?_
      have hxe : x ≠ e := fun hh => he (hh ▸ hx)
      rw [removeEntry_eq, release_entries]
      simp [State.unqueued, Table.read_write, hxe]
    rw [List.countP_cons] at hc
    have hm := congrArg (fun t : Table Message 128 => t.read m) (removeEntry_messages h e s)
    simp only [Table.read_write] at hm
    by_cases hme : m = (s.entries.read e).message
    · have hcount : (s.messages.read m).refCount - 1 ≠ 0 := by
        simp only [← hme, beq_self_eq_true, if_true] at hc
        omega
      rw [if_pos hme, ← hme, if_neg hcount] at hm
      obtain ⟨hs, hp⟩ := ih hnd' (s := removeEntry h e s) (by
        rw [hrest, hm]
        simp only [← hme, beq_self_eq_true, if_true] at hc
        show _ < (s.messages.read m).refCount - 1
        omega)
      rw [hm] at hs hp
      exact ⟨hs, hp⟩
    · rw [if_neg hme] at hm
      obtain ⟨hs, hp⟩ := ih hnd' (s := removeEntry h e s) (by
        rw [hrest, hm]
        omega)
      rw [hm] at hs hp
      exact ⟨hs, hp⟩

/-- A FILLING message has more references than entries in any one queue (R16, R86). -/
theorem queue_count_lt_refCount {s : State} (hd : deliveryLaw s) (h : HostId) {m : MsgId}
    (hm : (s.messages.read m).state = .filling) :
    (s.queues.read h).Nodup
      ∧ (s.queues.read h).countP (fun e => (s.entries.read e).message == m) < (s.messages.read m).refCount := by
  obtain ⟨hthird, ⟨hnodup, huse⟩, -⟩ := hd
  have hq : (s.queues.read h).Nodup := (List.nodup_flatMap.1 hnodup).1 h (mem_allHosts h)
  refine ⟨hq, ?_⟩
  have hr := (hthird m (by simp [Message.isLive, hm])).1
  rw [if_pos hm] at hr
  have hle : ((s.queues.read h).filter (fun e => (s.entries.read e).message == m)).length ≤ s.entriesOf m := by
    refine ((hq.filter _).subperm fun e he => ?_).length_le
    obtain ⟨hmem, heq⟩ := List.mem_filter.1 he
    rw [Table.mem_indices, (huse e).2 ⟨h, hmem⟩, heq]
    rfl
  rw [List.countP_eq_length_filter]
  omega

/-- Steps 1 and 2 of R154 leave the host its FILLING message, if it had one. -/
theorem unsubscribed_isFilling {h : HostId} {s : State} (hs : s.queues.read h = [] ∨ deliveryLaw s) :
    (s.unsubscribed h).isFilling h = s.isFilling h := by
  have hkeep : ∀ m, (s.messages.read m).state = .filling →
      ((s.unsubscribed h).messages.read m).state = .filling
        ∧ ((s.unsubscribed h).messages.read m).publisher = (s.messages.read m).publisher := by
    intro m hm
    have hmsg := freeSubscriptionsOf_messages h s
    unfold State.unsubscribed
    obtain hq | hd := hs
    · simp [hq, removeEntries, hm]
    · obtain ⟨hnd, hc⟩ := queue_count_lt_refCount hd h hm
      have hk := removeEntries_keeps_message h hnd (s := freeSubscriptionsOf h s) (m := m)
        (by simpa only [freeSubscriptionsOf_entries, hmsg] using hc)
      rw [hmsg, hm] at hk
      exact hk
  rw [Bool.eq_iff_iff]
  simp only [State.isFilling, List.any_eq_true, List.mem_finRange, true_and, Bool.and_eq_true, beq_iff_eq]
  constructor
  · rintro ⟨m, hf, hp⟩
    obtain ⟨hf', hp', -, -⟩ := unsubscribed_fades h s m hf
    exact ⟨m, hf', hp'.symm.trans hp⟩
  · rintro ⟨m, hf, hp⟩
    obtain ⟨hf', hp'⟩ := hkeep m hf
    exact ⟨m, hf', hp'.trans hp⟩

end Sys2Proof.Machine
end

section
/-! SUPPORT. A teardown as a whole (R154, R155): what it comes to for the host, for the others, and for an open vote. -/

namespace Sys2Proof.Machine

/-! ## After nine steps -/

section
variable (h : HostId) (final : Membership) (s : State)

theorem dismantle_subs : (dismantle h final s).subs = (s.unsubscribed h).subs := by
  rw [dismantle_eq, State.silenced]
  simp

theorem dismantle_queues : (dismantle h final s).queues = s.queues.write h [] := by
  rw [dismantle_eq, State.silenced, ← unsubscribed_queues]
  simp

theorem dismantle_messages : (dismantle h final s).messages = (s.silenced h).messages := by
  rw [dismantle_eq]

theorem dismantle_members : (dismantle h final s).members =
    s.members.write h { s.members.read h with state := final, leaseDeadline := none } := by
  rw [dismantle_eq, State.silenced, State.unsubscribed]
  simp

theorem dismantle_links : (dismantle h final s).links = s.links.write h (s.links.read h).cutOff := by
  rw [dismantle_eq, State.silenced, State.unsubscribed]
  simp

theorem dismantle_creator {c : ChanId} (hc : ((dismantle h final s).channels.read c).state ≠ .closed) :
    ((dismantle h final s).channels.read c).creator ≠ some h := by
  rw [dismantle_eq] at hc ⊢
  simp only [Table.read_mapAll, Channel.disown] at hc ⊢
  split at hc
  · next ho => simp [ho]
  · next ho => simpa [ho] using fun hs => ho ⟨hc, hs⟩

theorem dismantle_turn :
    (dismantle h final s).turn.holder ≠ some h ∧ (dismantle h final s).claimants.read h = false := by
  rw [dismantle_eq, State.silenced, withdraw_eq]
  dsimp only
  split
  · unfold State.turnPassed
    split
    · next n hn =>
      have hclaim := nextClaimant_claims hn
      have hne : n ≠ h := by
        rintro rfl
        simp at hclaim
      simp [Turn.holder, hne]
    · simp [Turn.holder]
  · next hn => exact ⟨hn, by simp⟩

theorem dismantle_desk :
    ((dismantle h final s).desks.read h).notices = [] ∧ ((dismantle h final s).desks.read h).lost = 0
      ∧ ((dismantle h final s).desks.read h).latches = Latches.clear := by
  rw [dismantle_eq]
  simp

theorem dismantle_mark : ((dismantle h final s).accounts.read h).exhausted = false := by
  rw [dismantle_eq]
  simp

theorem dismantle_quota (g : HostId) : ((dismantle h final s).accounts.read g).quota = (s.accounts.read g).quota := by
  rw [dismantle_eq, ← silenced_quota h s g]
  by_cases hg : g = h
  · simp [hg]
  · simp [hg, Table.read_write]

/-- The ledgers after steps 1 to 4 of R154: ABORTED has advanced if the host had a FILLING message left. -/
theorem silenced_ledger (g : HostId) : ((s.silenced h).desks.read g).ledger =
    if g = h ∧ (s.unsubscribed h).isFilling h = true then
      ((s.desks.read g).notices, (s.desks.read g).lost,
        { (s.desks.read g).counters with aborted := counted (s.desks.read g).counters.aborted })
    else (s.desks.read g).ledger := by
  have hu := unsubscribed_ledger h s g
  rw [State.silenced, withdraw_ledger, abortFillingOf, isFilling_eq]
  cases hm : (s.unsubscribed h).fillingOf h with
  | none => simpa using hu
  | some m =>
    have hp := (fillingOf_some hm).2
    dsimp only
    rw [abortMessage_ledger, hp]
    simp only [Desk.ledger, Prod.mk.injEq] at hu
    obtain ⟨hn, hl, hc⟩ := hu
    simp [Desk.ledger, hn, hl, hc]

theorem dismantle_ledger {g : HostId} (hg : g ≠ h) :
    ((dismantle h final s).desks.read g).ledger = (s.desks.read g).ledger := by
  have hl := silenced_ledger h s g
  rw [if_neg (fun hh => hg hh.1)] at hl
  rw [dismantle_eq, ← hl]
  simp [Table.read_write, hg]

theorem dismantle_counters {s : State} (hs : s.queues.read h = [] ∨ deliveryLaw s) :
    ((dismantle h final s).desks.read h).counters =
      if s.isFilling h = true then
        { (s.desks.read h).counters with aborted := counted (s.desks.read h).counters.aborted }
      else (s.desks.read h).counters := by
  have hl := congrArg (fun x => x.2.2) (silenced_ledger h s h)
  rw [unsubscribed_isFilling hs] at hl
  rw [dismantle_eq]
  simp only [Table.read_write_self]
  refine Eq.trans hl ?_
  cases s.isFilling h <;> simp [Desk.ledger]

theorem dismantle_isJoined_ne {g : HostId} (hg : g ≠ h) : (dismantle h final s).isJoined g = s.isJoined g := by
  simp [State.isJoined, dismantle_members, Table.read_write, hg]

theorem dismantle_isJoined_self {final : Membership} (hf : final ≠ .joined) :
    (dismantle h final s).isJoined h = false := by
  simpa [State.isJoined, dismantle_members] using hf

end

/-! ## The vote (step 10) -/

theorem isJoined_setVote (u : State) (v : Option Vote) (g : HostId) :
    ({ u with vote := v } : State).isJoined g = u.isJoined g := rfl

/-- Everything the removal of a departed host's vote can do (R162). -/
theorem withdrawVote_cases {h : HostId} {u : State} (hj : u.isJoined h = false) :
    (u.vote = none ∧ withdrawVote h u = u)
      ∨ ∃ v, u.vote = some v
        ∧ (((∀ g, g ≠ h → v.voters.read g = false) ∧ ToldAll .voteFailed { u with vote := none } (withdrawVote h u))
          ∨ ((∃ g, g ≠ h ∧ v.voters.read g = true)
            ∧ (((∀ g, g ≠ h → v.voters.read g = u.isJoined g)
                ∧ Cleared { u with vote := none } (withdrawVote h u))
              ∨ ((∃ g, g ≠ h ∧ v.voters.read g ≠ u.isJoined g)
                ∧ withdrawVote h u = { u with vote := some { v with voters := HostSet.erase v.voters h } })))) := by
  have hjudged := voteJudged_judgeVote
    { u with vote := u.vote.map (fun v => { v with voters := HostSet.erase v.voters h }) }
  rw [← withdrawVote] at hjudged
  cases hv : u.vote with
  | none =>
    have hself : { u with vote := none } = u := by rw [← hv]
    simp only [VoteJudged, hv, Option.map_none, hself] at hjudged
    exact .inl ⟨rfl, hjudged⟩
  | some v =>
    refine .inr ⟨v, rfl, ?_⟩
    have hempty : (∀ g, (HostSet.erase v.voters h).read g = false) ↔ ∀ g, g ≠ h → v.voters.read g = false := by
      simp [imp_iff_not_or]
    have hall : (∀ g, (HostSet.erase v.voters h).read g = u.isJoined g) ↔
        ∀ g, g ≠ h → v.voters.read g = u.isJoined g := by
      refine forall_congr' fun g => ?_
      by_cases hg : g = h
      · simp [hg, hj]
      · simp [hg]
    have hsame : ∀ g, ({ u with vote := some { v with voters := HostSet.erase v.voters h } } : State).isJoined g =
      u.isJoined g := fun g => rfl
    simp only [VoteJudged, hv, Option.map_some, hempty, hsame, hall] at hjudged
    by_cases h1 : ∀ g, g ≠ h → v.voters.read g = false
    · rw [if_pos h1] at hjudged
      exact .inl ⟨h1, hjudged⟩
    · rw [if_neg h1] at hjudged
      refine .inr ⟨by simpa using h1, ?_⟩
      by_cases h2 : ∀ g, g ≠ h → v.voters.read g = u.isJoined g
      · rw [if_pos h2] at hjudged
        exact .inl ⟨h2, hjudged⟩
      · rw [if_neg h2] at hjudged
        exact .inr ⟨by simpa using h2, hjudged⟩

/-- What the removal of a vote leaves of the tables: everything, or what an exchange clear leaves. -/
theorem withdrawVote_tables {h : HostId} {u : State} (hj : u.isJoined h = false) :
    let w := withdrawVote h u
    (w.subs = u.subs ∧ w.queues = u.queues ∧ w.messages = u.messages ∧ w.channels = u.channels ∧ w.turn = u.turn
        ∧ w.claimants = u.claimants ∧ w.accounts = u.accounts ∧ w.links = u.links)
      ∨ Cleared { u with vote := none } w := by
  intro w
  obtain ⟨-, hw⟩ | ⟨v, -, ⟨-, hw, -⟩ | ⟨-, ⟨-, hw⟩ | ⟨-, hw⟩⟩⟩ := withdrawVote_cases hj
  · left
    simp only [w]
    rw [hw]
    simp
  · left
    simp only [w]
    rw [hw]
    simp
  · exact .inr hw
  · left
    simp only [w]
    rw [hw]
    simp

/-- A vote's removal tells the departed host nothing. -/
theorem withdrawVote_desk {h : HostId} {u : State} (hj : u.isJoined h = false)
    (hd : (u.desks.read h).notices = [] ∧ (u.desks.read h).lost = 0 ∧ (u.desks.read h).latches = Latches.clear) :
    ((withdrawVote h u).desks.read h).notices = [] ∧ ((withdrawVote h u).desks.read h).lost = 0
      ∧ ((withdrawVote h u).desks.read h).latches = Latches.clear := by
  have hj' : ({ u with vote := none } : State).isJoined h = false := hj
  obtain ⟨-, hw⟩ | ⟨v, -, ⟨-, -, hw⟩ | ⟨-, ⟨-, hw⟩ | ⟨-, hw⟩⟩⟩ := withdrawVote_cases hj
  · rw [hw]
    exact hd
  · rw [hw h, hj']
    simpa using hd
  · rw [hw.desks h, hj']
    simp
  · rw [hw]
    exact hd

/-! ## The notice (step 11), and the whole -/

theorem Desk.of_ledger_eq {d e : Desk} (hl : d.ledger = e.ledger) :
    d.notices = e.notices ∧ d.lost = e.lost ∧ d.counters = e.counters := by
  simpa [Desk.ledger] using hl

/-- What a posting leaves of the ledger depends on the ledger alone. -/
theorem Desk.posted_congr {d e : Desk} (n : Notice) (hl : d.ledger = e.ledger) :
    (d.posted n).ledger = (e.posted n).ledger := by
  obtain ⟨hn, hl, hc⟩ := Desk.of_ledger_eq hl
  simp [Desk.ledger, Desk.posted, hn, hl, hc]

theorem postAll_vote (n : Notice) (s : State) : (postAll n s).vote = s.vote := by simp

theorem postAll_links (n : Notice) (s : State) : (postAll n s).links = s.links := by simp

theorem postAll_queues (n : Notice) (s : State) : (postAll n s).queues = s.queues := by simp

theorem cutOff_cutOff (l : Link) : l.cutOff.cutOff = l.cutOff := by
  simp only [Link.cutOff]
  split <;> simp_all

/-- An exchange clear, and a notice to every JOINED host after it. -/
theorem postAll_cleared (n : Notice) {u w : State} (hc : Cleared u w) :
    let t := postAll n w
    t.vote = none ∧ t.freeList = List.finRange 512 ∧ (∀ m, t.messages.read m = Message.vacant)
      ∧ (∀ c, t.channels.read c = Channel.closed) ∧ (∀ g, (t.desks.read g).counters = Counters.zero)
      ∧ ∀ g, u.isJoined g = true → (t.desks.read g).notices = [.exchangeCleared, n]
        ∧ (t.desks.read g).latches = { Latches.clear with notice := true, ready := true } := by
  obtain ⟨hmsg, hchan, -⟩ := hc.tables
  obtain ⟨-, -, -, -, hmem, -⟩ := hc.frame
  have hdesk : ∀ g, (postAll n w).desks.read g =
      if u.isJoined g = true then (w.desks.read g).posted n else w.desks.read g := by
    intro g
    rw [postAll_desks, State.isJoined, hmem]
    rfl
  intro t
  simp only [t, postAll_frame]
  refine ⟨hc.vote, hc.pool.2, hmsg, hchan, fun g => ?_, fun g hj => ?_⟩
  · rw [hdesk g, hc.desks g]
    split <;> rfl
  · rw [hdesk g, hc.desks g, if_pos hj, if_pos hj]
    exact ⟨rfl, rfl⟩

section
variable {h : HostId} {final : Membership} (n : Notice) (s : State) (hf : final ≠ .joined)

theorem withdrawVote_members (h : HostId) (u : State) : (withdrawVote h u).members = u.members := by simp

theorem teardown_eq : teardown h final n s = postAll n (withdrawVote h (dismantle h final s)) := rfl

/-- Which hosts the notice goes to: the JOINED ones but the departed. -/
theorem teardown_desks (g : HostId) : (teardown h final n s).desks.read g =
    if (dismantle h final s).isJoined g = true then ((withdrawVote h (dismantle h final s)).desks.read g).posted n
    else (withdrawVote h (dismantle h final s)).desks.read g := by
  rw [teardown_eq, postAll_desks, State.isJoined, withdrawVote_members]
  rfl

theorem teardown_desks_joined {g : HostId} (hg : g ≠ h) (hj : s.isJoined g = true) :
    (teardown h final n s).desks.read g = ((withdrawVote h (dismantle h final s)).desks.read g).posted n := by
  rw [teardown_desks, dismantle_isJoined_ne h final s hg, if_pos hj]

theorem teardown_vote : (teardown h final n s).vote = (withdrawVote h (dismantle h final s)).vote := by
  rw [teardown_eq, postAll_vote]

include hf

theorem teardown_desks_self :
    (teardown h final n s).desks.read h = (withdrawVote h (dismantle h final s)).desks.read h := by
  rw [teardown_desks, dismantle_isJoined_self h s hf, if_neg (by simp)]

/-- The tables after a teardown: those of its first nine steps, or cleared. -/
theorem teardown_tables :
    let t := teardown h final n s
    let u := dismantle h final s
    (t.subs = u.subs ∧ t.queues = u.queues ∧ t.messages = u.messages ∧ t.channels = u.channels ∧ t.turn = u.turn
        ∧ t.claimants = u.claimants ∧ t.accounts = u.accounts ∧ t.links = u.links)
      ∨ ((∀ i, t.subs.read i = Subscription.free) ∧ (∀ g, t.queues.read g = [])
        ∧ (∀ m, t.messages.read m = Message.vacant) ∧ (∀ c, t.channels.read c = Channel.closed) ∧ t.turn = .none
        ∧ t.claimants = noHosts
        ∧ (∀ g, t.accounts.read g = { quota := (u.accounts.read g).quota, charge := 0, exhausted := false })
        ∧ ∀ g, t.links.read g = (u.links.read g).cutOff) := by
  intro t u
  have hw := withdrawVote_tables (dismantle_isJoined_self h s hf)
  simp only [t, u, teardown_eq, postAll_frame]
  obtain hw | hw := hw
  · exact .inl hw
  · obtain ⟨hmsg, hchan, hsub, -, hqueue⟩ := hw.tables
    exact .inr ⟨hsub, hqueue, hmsg, hchan, hw.turn.1, hw.turn.2.1, hw.accounts, hw.links⟩

theorem teardown_subs {i : SubId} (hi : (s.subs.read i).owner = h) :
    ((teardown h final n s).subs.read i).state = .free := by
  obtain ⟨hsub, -⟩ | ⟨hsub, -⟩ := teardown_tables n s hf
  · rw [hsub, dismantle_subs, unsubscribed_subState hi]
  · rw [hsub i]
    rfl

theorem teardown_queue : (teardown h final n s).queues.read h = [] := by
  obtain ⟨-, hq, -⟩ | ⟨-, hq, -⟩ := teardown_tables n s hf
  · rw [hq, dismantle_queues, Table.read_write_self]
  · exact hq h

theorem teardown_filling (hs : fillingLaw s) {m : MsgId}
    (hm : ((teardown h final n s).messages.read m).state = .filling) :
    ((teardown h final n s).messages.read m).publisher ≠ h := by
  obtain ⟨-, -, hmsg, -⟩ | ⟨-, -, hmsg, -⟩ := teardown_tables n s hf
  · rw [hmsg, dismantle_messages] at hm ⊢
    exact silenced_not_filling hs hm
  · rw [hmsg m] at hm
    cases hm

theorem teardown_turn :
    (teardown h final n s).turn.holder ≠ some h ∧ (teardown h final n s).claimants.read h = false := by
  obtain ⟨-, -, -, -, hturn, hclaim, -⟩ | ⟨-, -, -, -, hturn, hclaim, -⟩ := teardown_tables n s hf
  · rw [hturn, hclaim]
    exact dismantle_turn h final s
  · rw [hturn, hclaim]
    simp [Turn.holder]

theorem teardown_creators {c : ChanId} (hc : ((teardown h final n s).channels.read c).state ≠ .closed) :
    ((teardown h final n s).channels.read c).creator ≠ some h := by
  obtain ⟨-, -, -, hchan, -⟩ | ⟨-, -, -, hchan, -⟩ := teardown_tables n s hf
  · rw [hchan] at hc ⊢
    exact dismantle_creator h final s hc
  · rw [hchan c] at hc
    exact absurd rfl hc

theorem teardown_mark : ((teardown h final n s).accounts.read h).exhausted = false := by
  obtain ⟨-, -, -, -, -, -, hacc, -⟩ | ⟨-, -, -, -, -, -, hacc, -⟩ := teardown_tables n s hf
  · rw [hacc, dismantle_mark]
  · rw [hacc h]

theorem teardown_quota (g : HostId) :
    ((teardown h final n s).accounts.read g).quota = (s.accounts.read g).quota := by
  obtain ⟨-, -, -, -, -, -, hacc, -⟩ | ⟨-, -, -, -, -, -, hacc, -⟩ := teardown_tables n s hf
  · rw [hacc, dismantle_quota]
  · rw [hacc g, ← dismantle_quota h final s g]

/-- The departed host's link is cut off, by its teardown or by the clear after it too (R139). -/
theorem teardown_link : (teardown h final n s).links.read h = (s.links.read h).cutOff := by
  have hu : (dismantle h final s).links.read h = (s.links.read h).cutOff := by
    rw [dismantle_links, Table.read_write_self]
  obtain ⟨-, -, -, -, -, -, -, hlinks⟩ | ⟨-, -, -, -, -, -, -, hlinks⟩ := teardown_tables n s hf
  · rw [hlinks, hu]
  · rw [hlinks h, hu, cutOff_cutOff]

/-- With no vote open a teardown tells the others, and that is all it is to them. -/
theorem teardown_others (hv : s.vote = none) :
    (teardown h final n s).vote = none ∧ ∀ g, g ≠ h →
      (teardown h final n s).links.read g = s.links.read g ∧ (teardown h final n s).queues.read g = s.queues.read g
        ∧ ((teardown h final n s).desks.read g).counters = (s.desks.read g).counters
        ∧ (((teardown h final n s).desks.read g).notices, ((teardown h final n s).desks.read g).lost) =
            if s.isJoined g = true then (((s.desks.read g).posted n).notices, ((s.desks.read g).posted n).lost)
            else ((s.desks.read g).notices, (s.desks.read g).lost) := by
  have hu : (dismantle h final s).vote = none := by simp [hv]
  have hw : withdrawVote h (dismantle h final s) = dismantle h final s := by
    obtain ⟨-, hw⟩ | ⟨v, hv', -⟩ := withdrawVote_cases (dismantle_isJoined_self h s hf)
    · exact hw
    · exact absurd (hu.symm.trans hv') (by simp)
  refine ⟨?_, fun g hg => ⟨?_, ?_, ?_⟩⟩
  · rw [teardown_vote, hw, hu]
  · rw [teardown_eq, hw, postAll_links, dismantle_links, Table.read_write_ne _ _ hg]
  · rw [teardown_eq, hw, postAll_queues, dismantle_queues, Table.read_write_ne _ _ hg]
  · have hl := dismantle_ledger h final s hg
    rw [teardown_desks, hw, dismantle_isJoined_ne h final s hg]
    split
    · obtain ⟨hnot, hlost, hcount⟩ := Desk.of_ledger_eq (Desk.posted_congr n hl)
      exact ⟨hcount, by rw [hnot, hlost]⟩
    · obtain ⟨hnot, hlost, hcount⟩ := Desk.of_ledger_eq hl
      exact ⟨hcount, by rw [hnot, hlost]⟩

theorem teardown_counters (hv : s.vote = none) (hs : s.queues.read h = [] ∨ deliveryLaw s) :
    ((teardown h final n s).desks.read h).counters =
      if s.isFilling h then
        { (s.desks.read h).counters with aborted := counted (s.desks.read h).counters.aborted }
      else (s.desks.read h).counters := by
  have hu : (dismantle h final s).vote = none := by simp [hv]
  obtain ⟨-, hw⟩ | ⟨v, hv', -⟩ := withdrawVote_cases (dismantle_isJoined_self h s hf)
  · rw [teardown_desks_self n s hf, hw, dismantle_counters h final hs]
  · exact absurd (hu.symm.trans hv') (by simp)

/-- A vote that only the departed host backed fails (R162). -/
theorem teardown_voteFails {v : Vote} (hv : s.vote = some v) (hnone : ∀ g, g ≠ h → v.voters.read g = false) :
    (teardown h final n s).vote = none ∧ ∀ g, g ≠ h → s.isJoined g = true →
      let d := ((s.desks.read g).posted .voteFailed).posted n
      ((teardown h final n s).desks.read g).notices = d.notices ∧ ((teardown h final n s).desks.read g).lost = d.lost := by
  have hu : (dismantle h final s).vote = some v := by simp [hv]
  have htold : ToldAll .voteFailed { dismantle h final s with vote := none }
      (withdrawVote h (dismantle h final s)) := by
    obtain ⟨hn, -⟩ | ⟨v', hv', ⟨-, hw⟩ | ⟨⟨g, hg, hvote⟩, -⟩⟩ :=
      withdrawVote_cases (dismantle_isJoined_self h s hf)
    · exact absurd (hn.symm.trans hu) (by simp)
    · exact hw
    · obtain rfl := Option.some.inj (hu.symm.trans hv')
      rw [hnone g hg] at hvote
      cases hvote
  obtain ⟨hw, hdesks⟩ := htold
  refine ⟨?_, fun g hg hj => ?_⟩
  · rw [teardown_vote, hw]
  · have hl := Desk.posted_congr n (Desk.posted_congr .voteFailed (dismantle_ledger h final s hg))
    rw [teardown_desks_joined n s hg hj, hdesks g, isJoined_setVote, dismantle_isJoined_ne h final s hg,
      if_pos hj]
    obtain ⟨hnot, hlost, -⟩ := Desk.of_ledger_eq hl
    exact ⟨hnot, hlost⟩

/-- A vote that every other JOINED host backs clears the exchange (R162, R163). -/
theorem teardown_voteClears {v : Vote} (hv : s.vote = some v) (hsome : ∃ g, g ≠ h ∧ v.voters.read g = true)
    (hall : ∀ g, g ≠ h → v.voters.read g = s.isJoined g) :
    Cleared { dismantle h final s with vote := none } (withdrawVote h (dismantle h final s)) := by
  have hu : (dismantle h final s).vote = some v := by simp [hv]
  obtain ⟨hn, -⟩ | ⟨v', hv', ⟨hnone, -⟩ | ⟨-, ⟨-, hw⟩ | ⟨⟨g, hg, hne⟩, -⟩⟩⟩ :=
    withdrawVote_cases (dismantle_isJoined_self h s hf)
  · exact absurd (hn.symm.trans hu) (by simp)
  · obtain rfl := Option.some.inj (hu.symm.trans hv')
    obtain ⟨g, hg, hvote⟩ := hsome
    rw [hnone g hg] at hvote
    cases hvote
  · exact hw
  · obtain rfl := Option.some.inj (hu.symm.trans hv')
    exact absurd ((hall g hg).trans (dismantle_isJoined_ne h final s hg).symm) hne

/-- A vote that some others back, and some do not, stays open (R162). -/
theorem teardown_voteStays {v : Vote} {x y : HostId} (hv : s.vote = some v) (hx : x ≠ h)
    (hvx : v.voters.read x = true) (hy : y ≠ h) (hjy : s.isJoined y = true) (hvy : v.voters.read y = false) :
    (teardown h final n s).vote = some { v with voters := HostSet.erase v.voters h } := by
  have hu : (dismantle h final s).vote = some v := by simp [hv]
  obtain ⟨hn, -⟩ | ⟨v', hv', ⟨hnone, -⟩ | ⟨-, ⟨hall, -⟩ | ⟨-, hw⟩⟩⟩ :=
    withdrawVote_cases (dismantle_isJoined_self h s hf)
  · exact absurd (hn.symm.trans hu) (by simp)
  · obtain rfl := Option.some.inj (hu.symm.trans hv')
    rw [hnone x hx] at hvx
    cases hvx
  · obtain rfl := Option.some.inj (hu.symm.trans hv')
    have hc := hall y hy
    rw [dismantle_isJoined_ne h final s hy, hjy, hvy] at hc
    cases hc
  · obtain rfl := Option.some.inj (hu.symm.trans hv')
    rw [teardown_vote, hw]

/-- A teardown is what R154 and R155 say. -/
theorem tornDown_teardown : TornDown h final n s (teardown h final n s) where
  steps := ⟨_, _, dismantled_dismantle h final s, voteJudged_judgeVote _, toldAll_postAll n _⟩
  members := by simp [teardown_eq, dismantle_members]
  subs _ hi := teardown_subs n s hf hi
  queue := teardown_queue n s hf
  filling hs _ hm := teardown_filling n s hf hs hm
  turn := teardown_turn n s hf
  creators _ hc := teardown_creators n s hf hc
  desk := by
    rw [teardown_desks_self n s hf]
    exact withdrawVote_desk (dismantle_isJoined_self h s hf) (dismantle_desk h final s)
  mark := teardown_mark n s hf
  quota := teardown_quota n s hf
  others := teardown_others n s hf
  counters := teardown_counters n s hf
  voteFails _ hv hnone := teardown_voteFails n s hf hv hnone
  voteClears _ hv hsome hall := by
    obtain ⟨hvote, hfree, hmsg, hchan, hcount, hdesk⟩ := postAll_cleared n (teardown_voteClears s hf hv hsome hall)
    exact ⟨hvote, hfree, hmsg, hchan, hcount, fun g hg hj =>
      hdesk g ((isJoined_setVote _ _ _).trans ((dismantle_isJoined_ne h final s hg).trans hj))⟩
  voteStays _ _ _ hv hx hvx hy hjy hvy := teardown_voteStays n s hf hv hx hvx hy hjy hvy
  frame := by simp

end

end Sys2Proof.Machine
end

section
/-! SUPPORT. The shared operations and the links: an operation of a teardown does not look at the links, and a teardown
changes them by rule R139 alone. -/

namespace Sys2Proof.Machine

/-- A state with other links. -/
def State.withLinks (s : State) (L : Table Link 4) : State := { s with links := L }

theorem withLinks_self (s : State) : s.withLinks s.links = s := rfl

theorem withLinks_frame (s : State) (L : Table Link 4) :
    (s.withLinks L).accounts = s.accounts ∧ (s.withLinks L).messages = s.messages
      ∧ (s.withLinks L).entries = s.entries ∧ (s.withLinks L).queues = s.queues ∧ (s.withLinks L).turn = s.turn
      ∧ (s.withLinks L).rationed = s.rationed ∧ (s.withLinks L).members = s.members
      ∧ (s.withLinks L).params = s.params ∧ (s.withLinks L).vote = s.vote :=
  ⟨rfl, rfl, rfl, rfl, rfl, rfl, rfl, rfl, rfl⟩

/-- What is read off a state without its links. -/
theorem withLinks_views (s : State) (L : Table Link 4) :
    (∀ h, (s.withLinks L).isJoined h = s.isJoined h) ∧ (∀ h, (s.withLinks L).credit h = s.credit h)
      ∧ (s.withLinks L).freeCount = s.freeCount ∧ (∀ m, (s.withLinks L).chainOf m = s.chainOf m)
      ∧ (∀ h, (s.withLinks L).fillingOf h = s.fillingOf h) ∧ (s.withLinks L).nextClaimant = s.nextClaimant
      ∧ (s.withLinks L).joinedHosts = s.joinedHosts :=
  ⟨fun _ => rfl, fun _ => rfl, rfl, fun _ => rfl, fun _ => rfl, rfl, rfl⟩

/-- An operation neither reads nor writes the links. -/
def IgnoresLinks (f : State → State) : Prop := ∀ s L, f (s.withLinks L) = (f s).withLinks L

theorem IgnoresLinks.comp {f g : State → State} (hf : IgnoresLinks f) (hg : IgnoresLinks g) :
    IgnoresLinks (fun s => f (g s)) := fun s L => (congrArg f (hg s L)).trans (hf (g s) L)

theorem IgnoresLinks.foldl {α : Type} {f : State → α → State} (hf : ∀ a, IgnoresLinks (fun s => f s a)) (l : List α) :
    IgnoresLinks (fun s => l.foldl f s) := fun _ L =>
  List.foldl_hom (fun t : State => t.withLinks L) fun t a => (hf a t L)

/-! ## The operations -/

theorem latch_ignoresLinks (h : HostId) (c : Cause) : IgnoresLinks (latch h c) := fun _ _ => rfl

theorem post_ignoresLinks (h : HostId) (n : Notice) : IgnoresLinks (post h n) := fun s L => by
  simp only [post_eq, withLinks_views]
  split <;> rfl

theorem postAll_ignoresLinks (n : Notice) : IgnoresLinks (postAll n) :=
  .foldl (fun h => post_ignoresLinks h n) allHosts

theorem latchTurns_ignoresLinks (hs : HostSet) : IgnoresLinks (latchTurns hs) :=
  .foldl (fun h => latch_ignoresLinks h .turn) _

theorem endRationing_ignoresLinks : IgnoresLinks endRationing := fun s L => by
  unfold endRationing
  simp only [withLinks_frame]
  cases s.turn <;> simp only [latch_ignoresLinks _ _ s L] <;> exact congrArg (fun t : State =>
    { t with rationed := false, claimants := noHosts, turn := .none }) (latchTurns_ignoresLinks _ _ L)

theorem reevaluate_ignoresLinks : IgnoresLinks reevaluate := fun s L => by
  unfold reevaluate
  simp only [endRationing_ignoresLinks s L, withLinks_frame, withLinks_views]
  repeat' split
  all_goals rfl

theorem returnCells_ignoresLinks (l : List CellId) : IgnoresLinks (returnCells l) := fun s L =>
  congrArg (fun t : State => { t with freeList := s.freeList ++ l })
    (IgnoresLinks.foldl (f := fun s c => s.modCell c (fun _ => CellRec.free)) (fun _ _ _ => rfl) l s L)

theorem judgeMark_ignoresLinks (h : HostId) : IgnoresLinks (judgeMark h) := fun s L => by
  unfold judgeMark
  simp only [withLinks_frame, withLinks_views]
  repeat' split
  all_goals rfl

theorem setCharge_ignoresLinks (h : HostId) (c : Nat) : IgnoresLinks (setCharge h c) := fun s L => by
  have hm : IgnoresLinks (fun s => s.modAccount h (fun a => { a with charge := c })) := fun _ _ => rfl
  unfold setCharge
  simp only [hm s L, judgeMark_ignoresLinks h _ L, withLinks_views]
  split <;> rfl

theorem afterReturn_ignoresLinks (m : MsgId) : IgnoresLinks (afterReturn m) := fun s L => by
  unfold afterReturn
  simp only [withLinks_views, returnCells_ignoresLinks _  s L, reevaluate_ignoresLinks _ L]
  split <;> rfl

theorem freeMessage_ignoresLinks (m : MsgId) : IgnoresLinks (freeMessage m) := fun s L => by
  simp only [freeMessage_eq, afterReturn_ignoresLinks m s L, withLinks_frame, setCharge_ignoresLinks _ _ _ L]
  rfl

theorem release_ignoresLinks (m : MsgId) : IgnoresLinks (release m) := fun s L => by
  have hm : IgnoresLinks (fun s => s.modMessage m (fun x => { x with refCount := x.refCount - 1 })) := fun _ _ => rfl
  unfold release
  simp only [hm s L, freeMessage_ignoresLinks m _ L, withLinks_frame]
  split <;> rfl

theorem endTurn_ignoresLinks : IgnoresLinks endTurn := fun s L => by
  unfold endTurn
  simp only [withLinks_views]
  split <;> rfl

theorem endTurnOf_ignoresLinks (h : HostId) : IgnoresLinks (endTurnOf h) := fun s L => by
  unfold endTurnOf
  simp only [withLinks_frame, endTurn_ignoresLinks s L]
  cases s.turn with
  | none | granted => rfl
  | inUse =>
    dsimp only
    split <;> rfl

theorem countAbort_ignoresLinks (h : HostId) : IgnoresLinks (countAbort h) := fun _ _ => rfl

theorem abortMessage_ignoresLinks (m : MsgId) : IgnoresLinks (abortMessage m) := fun s L => by
  have hm : IgnoresLinks (fun s => s.markAborted m) := fun _ _ => rfl
  simp only [abortMessage_eq, hm s L, release_ignoresLinks m _ L, countAbort_ignoresLinks _ _ L,
    endTurnOf_ignoresLinks _ _ L, withLinks_frame]

theorem removeEntry_ignoresLinks (h : HostId) (e : EntryId) : IgnoresLinks (removeEntry h e) := fun s L => by
  have hm : IgnoresLinks (fun s => s.unqueued h e) := fun _ _ => rfl
  simp only [removeEntry_eq, hm s L, release_ignoresLinks _ _ L, withLinks_frame]

theorem freeSubscriptionsOf_ignoresLinks (h : HostId) : IgnoresLinks (freeSubscriptionsOf h) := fun s L =>
  IgnoresLinks.foldl (f := fun s i => freeSubscription i s) (fun _ _ _ => rfl)
    (s.subs.indices (fun x => x.state != .free && x.owner == h)) s L

theorem unsubscribed_ignoresLinks (h : HostId) : IgnoresLinks (fun s => s.unsubscribed h) := fun s L => by
  simp only [State.unsubscribed, freeSubscriptionsOf_ignoresLinks h s L, removeEntries, withLinks_frame]
  exact IgnoresLinks.foldl (removeEntry_ignoresLinks h) _ _ L

theorem abortFillingOf_ignoresLinks (h : HostId) : IgnoresLinks (abortFillingOf h) := fun s L => by
  unfold abortFillingOf
  simp only [withLinks_views, abortMessage_ignoresLinks _ s L]
  split <;> rfl

theorem withdraw_ignoresLinks (h : HostId) : IgnoresLinks (withdraw h) := fun s L => by
  have he := endTurn_ignoresLinks { s with claimants := HostSet.erase s.claimants h } L
  unfold withdraw
  simp only [withLinks_frame]
  split
  · exact he
  · rfl

theorem silenced_ignoresLinks (h : HostId) : IgnoresLinks (fun s => s.silenced h) :=
  (withdraw_ignoresLinks h).comp ((abortFillingOf_ignoresLinks h).comp (unsubscribed_ignoresLinks h))

/-! ## A teardown -/

/-- Steps 1 to 9 of R154 cut the host's link off, and nothing in them depends on the links. -/
theorem dismantle_withLinks (h : HostId) (final : Membership) (s : State) (L : Table Link 4) :
    dismantle h final (s.withLinks L) = (dismantle h final s).withLinks (L.write h (L.read h).cutOff) := by
  simp only [dismantle_eq, silenced_ignoresLinks h s L]
  rfl

/-- An exchange clear cuts every link off, and nothing in it depends on the links. -/
theorem exchangeClear_withLinks (s : State) (L : Table Link 4) :
    exchangeClear (s.withLinks L) = (exchangeClear s).withLinks (L.mapAll Link.cutOff) := by
  have hann : ∀ h, IgnoresLinks (fun s => announceClear s h) := fun h =>
    (latch_ignoresLinks h .ready).comp (post_ignoresLinks h .exchangeCleared)
  have hclear : (s.withLinks L).cleared = s.cleared.withLinks (L.mapAll Link.cutOff) := by
    have ht : clearTables (s.withLinks L) = (clearTables s).withLinks L := by
      simp only [clearTables, State.withLinks]
    have hr : ∀ k, rationedAfter (s.withLinks L) k = rationedAfter s k := fun _ => rfl
    rw [cleared_eq, cleared_eq, ht, hr]
    rfl
  rw [exchangeClear_eq, hclear]
  exact IgnoresLinks.foldl hann _ _ _

/-- The judgement of a vote does not depend on the links: it leaves them, or cuts every one off. -/
theorem judgeVote_withLinks (s : State) :
    (∀ L, judgeVote (s.withLinks L) = (judgeVote s).withLinks L)
      ∨ ∀ L, judgeVote (s.withLinks L) = (judgeVote s).withLinks (L.mapAll Link.cutOff) := by
  have hv : ∀ L, (s.withLinks L).vote = s.vote := fun _ => rfl
  have hj : ∀ L, (s.withLinks L).joinedHosts = s.joinedHosts := fun _ => rfl
  unfold judgeVote
  simp only [hv, hj]
  cases s.vote with
  | none => exact .inl fun _ => rfl
  | some v =>
    dsimp only
    split
    · exact .inl fun L => postAll_ignoresLinks .voteFailed { s with vote := none } L
    · split
      · exact .inr fun L => exchangeClear_withLinks { s with vote := none } L
      · exact .inl fun _ => rfl

/-- A teardown does not depend on the links: it cuts the host's link off, or every one. -/
theorem teardown_withLinks (h : HostId) (final : Membership) (n : Notice) (s : State) :
    (∀ L, teardown h final n (s.withLinks L) = (teardown h final n s).withLinks (L.write h (L.read h).cutOff))
      ∨ ∀ L, teardown h final n (s.withLinks L) = (teardown h final n s).withLinks (L.mapAll Link.cutOff) := by
  have hmap : ∀ L : Table Link 4, (L.write h (L.read h).cutOff).mapAll Link.cutOff = L.mapAll Link.cutOff := by
    refine fun L => Table.ext fun g => ?_
    by_cases hg : g = h
    · simp [hg, cutOff_cutOff]
    · simp [hg, Table.read_write]
  have hd : ∀ L, { dismantle h final (s.withLinks L) with
      vote := (dismantle h final (s.withLinks L)).vote.map (fun v => { v with voters := HostSet.erase v.voters h }) } =
      State.withLinks { dismantle h final s with
        vote := (dismantle h final s).vote.map (fun v => { v with voters := HostSet.erase v.voters h }) }
        (L.write h (L.read h).cutOff) := fun L => by
    rw [dismantle_withLinks]
    rfl
  simp only [teardown_eq, withdrawVote, hd]
  obtain hv | hv := judgeVote_withLinks { dismantle h final s with
    vote := (dismantle h final s).vote.map (fun v => { v with voters := HostSet.erase v.voters h }) }
  · exact .inl fun L => by rw [hv, postAll_ignoresLinks n]
  · exact .inr fun L => by rw [hv, postAll_ignoresLinks n, hmap]

/-! ## LEAVE and the lapse -/

theorem cutOff_of_idle {l : Link} (hl : l.phase = .idle) : l.cutOff = l := by
  simp [Link.cutOff, hl]

/-- What the last result of an idle link is written to is the same before its host's teardown and after it. -/
theorem setLast_teardown {h : HostId} {s : State} (hl : (s.links.read h).phase = .idle) (final : Membership)
    (n : Notice) (r : Reply) (k : Byte) :
    setLast h r k (teardown h final n s) = teardown h final n (setLast h r k s) := by
  let f (l : Link) : Link := { l with lastResult := r.result, lastSerial := k, lastValue := r.value }
  have hset : ∀ t : State, setLast h r k t = t.withLinks (t.links.update h f) := fun _ => rfl
  have hself := cutOff_of_idle hl
  have hf : (f (s.links.read h)).cutOff = f (s.links.read h) := cutOff_of_idle hl
  have key : ∀ F : Table Link 4 → Table Link 4,
      (∀ L, teardown h final n (s.withLinks L) = (teardown h final n s).withLinks (F L)) →
      (F s.links).update h f = F (s.links.update h f) →
      setLast h r k (teardown h final n s) = teardown h final n (setLast h r k s) := by
    intro F ht hF
    have hlinks : (teardown h final n s).links = F s.links := by
      rw [← withLinks_self s, ht]
      rfl
    rw [hset, hset, ht, hlinks, hF]
  obtain ht | ht := teardown_withLinks h final n s
  · refine key _ ht ?_
    simp [Table.update, hself, hf]
  · refine key _ ht (Table.ext fun g => ?_)
    by_cases hg : g = h
    · simp [hg, hself, hf]
    · simp [hg, Table.read_update]

/-- LEAVE on a JOINED host's link: the transaction ends OK, and the host is torn down (R153). -/
theorem execLeave_of_joined {s : State} {h : HostId} {r : Request} (hc : s.carries h .leave r)
    (hj : s.isJoined h = true) :
    execLeave h s = .next (teardown h .detached (.hostLeft h) (s.ended h .ok 0)) := by
  obtain ⟨hc, hk⟩ := hc
  have hidle : ((closeTransaction h s).links.read h).phase = .idle := by
    simp [closeTransaction_eq, State.setLink]
  have hj' : (closeTransaction h s).isJoined h = true := by
    rw [closeTransaction_eq]
    exact hj
  have howner : ownerLeave h (s.links.read h) (closeTransaction h s) =
      accept (teardown h .detached (.hostLeft h) (closeTransaction h s)) 0 := by
    rw [ownerLeave, if_pos hj']
  have hlast := setLast_teardown hidle .detached (.hostLeft h) { result := .ok, value := 0 } (s.links.read h).serial
  rw [execLeave, endRequest_of_carries hc (by simp [isKind, hk]), howner, accept, hlast, setLast_closeTransaction]

/-- Settles O24: LEAVE and a lapse are a teardown, which is what R154 says (`tornDown_teardown`). -/
theorem departureTearsDown : Obligations.DepartureTearsDown := by
  refine ⟨fun s h r hc hj => ⟨_, execLeave_of_joined hc hj, tornDown_teardown _ _ (by decide), ?_⟩,
    fun s h d hj hd hle => ⟨teardown h .lapsed (.hostLapsed h) s, ?_, tornDown_teardown _ s (by decide),
      teardown_link _ s (by decide)⟩⟩
  · have hlink : (s.ended h .ok 0).links.read h = (s.links.read h).ended .ok 0 := Table.read_write_self _ _ _
    rw [teardown_link _ _ (by decide), hlink, cutOff_of_idle rfl]
  · obtain ⟨-, ho⟩ | ⟨hn, -⟩ := execLeaseExpiry_cases h s
    · exact ho
    · have hdue := (s.leaseDue_eq_true_iff h).2 ⟨hj, d, hd, hle⟩
      exact absurd (hn.symm.trans hdue) (by decide)

end Sys2Proof.Machine
end

section
/-! SUPPORT. Matching and delivery: the match condition bit by bit, the target list by its carriers, and the outcomes of
a delivery by its reader's limit, its policy and the entry pool. -/

namespace Sys2Proof.Machine

/-! ## Matching (R55 to R57) -/

/-- Two words agree under a mask where they agree in each of its bits. -/
theorem and_mask_eq_iff {w : Nat} (a b mask : BitVec w) :
    a &&& mask = b &&& mask ↔ ∀ i < w, mask.getLsbD i = true → a.getLsbD i = b.getLsbD i := by
  rw [BitVec.eq_of_getLsbD_eq_iff]
  refine forall₂_congr fun i _ => ?_
  cases hm : mask.getLsbD i <;> simp [hm]

/-- Settles O37: the conditions of the test one by one, the masked comparison by `and_mask_eq_iff`. -/
theorem matchCondition : Obligations.MatchCondition := by
  intro x m
  simp only [Subscription.passes, Bool.and_eq_true, Bool.or_eq_true, beq_iff_eq, bne_iff_ne, and_mask_eq_iff, and_assoc]

/-- A host's carrier is the lowest of its records that match (R57). -/
theorem carrier_eq_some_iff (s : State) (m : Message) (h : HostId) (i : SubId) :
    s.carrier m h = some i ↔
      ((s.subs.read i).owner = h ∧ (s.subs.read i).passes m = true)
        ∧ ∀ j, j < i → (s.subs.read j).owner = h → (s.subs.read j).passes m = false := by
  rw [State.carrier, Table.lowest_eq_some_iff]
  simp

theorem mem_targets (s : State) (m : MsgId) (h : HostId) (i : SubId) :
    (h, i) ∈ s.targets m ↔ s.carrier (s.messages.read m) h = some i := by
  simp [State.targets]

/-- The target list follows the numbers of its hosts (R56). -/
theorem targets_ascend (s : State) (m : MsgId) : ((s.targets m).map Prod.fst).Pairwise (· < ·) := by
  have hhosts : allHosts.Pairwise (· < ·) := by decide
  rw [List.pairwise_map, State.targets, List.pairwise_filterMap]
  refine hhosts.imp fun {g h} hlt p hp q hq => ?_
  obtain ⟨i, -, rfl⟩ := Option.map_eq_some_iff.1 hp
  obtain ⟨j, -, rfl⟩ := Option.map_eq_some_iff.1 hq
  exact hlt

/-- Settles O38, by the host's carrier. -/
theorem targetsNameCarriers : Obligations.TargetsNameCarriers := fun s m =>
  ⟨fun h i => by rw [mem_targets, carrier_eq_some_iff, and_assoc], targets_ascend s m⟩

/-! ## One delivery (R89 to R94) -/

theorem appendEntry_eq (h : HostId) (m : MsgId) (i : SubId) (e : EntryId) (s : State) :
    appendEntry h m i e s = s.appended h m i e := by
  simp [appendEntry, State.appended, latch, State.modEntry, State.modQueue, State.modMessage, State.modSub,
    State.modDesk, Table.update, Latches.latch]

/-- A dropped delivery, reported to its reader (R94), in the words of the statements. -/
theorem reportDrop_eq (h : HostId) (n : Notice) (s : State) :
    reportDrop h n s = { s with desks := s.desks.write h ((s.desks.read h).dropped (s.isJoined h) n) } := by
  have hj : (s.modCounters h (fun c => { c with dropped := satIncrement c.dropped })).isJoined h = s.isJoined h := rfl
  rw [reportDrop, post_eq, hj, Desk.dropped]
  cases s.isJoined h <;>
    simp [State.modCounters, State.modDesk, State.setDesk, Table.update, satIncrement_eq_counted]

/-- The oldest QUEUED entry of a subscription is the first of its queue that is one (R91). -/
theorem queuedOf_head (s : State) (h : HostId) (i : SubId) :
    (s.queuedOf h i).head? = (s.queues.read h).find? (fun e =>
      (s.entries.read e).state == .queued && (s.entries.read e).subscription == some i) :=
  List.head?_filter ..

theorem freshEntry_eq_some_iff (s : State) (e : EntryId) :
    s.freshEntry = some e ↔ (s.entries.read e).inUse = false ∧ ∀ f, f < e → (s.entries.read f).inUse = true := by
  rw [State.freshEntry, Table.lowest_eq_some_iff]
  simp

theorem freshEntry_eq_none_iff (s : State) : s.freshEntry = none ↔ ∀ e, (s.entries.read e).inUse = true := by
  rw [State.freshEntry, Table.lowest_eq_none_iff]
  simp

section
variable {s : State} {m : MsgId} {h : HostId} {i : SubId}

/-- Below its limit a subscription's delivery takes the lowest free entry (R89). -/
theorem deliver_below {e : EntryId} (hx : (s.subs.read i).queued < (s.subs.read i).limit)
    (he : s.freshEntry = some e) : deliver m h i s = appendEntry h m i e s := by
  simp [deliver, hx, he]

/-- Below its limit, with no free entry, it is dropped with POOL (R90). -/
theorem deliver_pool (hx : (s.subs.read i).queued < (s.subs.read i).limit) (he : s.freshEntry = none) :
    deliver m h i s = reportDrop h (dropNotice i (s.messages.read m) .pool) s := by
  simp [deliver, hx, he]

/-- At its limit the new delivery is dropped, unless the policy displaces and there is one to displace (R90, R91). -/
theorem deliver_limit (hx : (s.subs.read i).limit ≤ (s.subs.read i).queued)
    (hp : (s.subs.read i).policy ≠ .dropOldest ∨ (s.queuedOf h i).head? = none) :
    deliver m h i s = reportDrop h (dropNotice i (s.messages.read m) .limit) s := by
  simp only [deliver, Nat.not_lt.2 hx, if_false]
  split
  · next e hd he => simp [hd, he] at hp
  · rfl

/-- At its limit, DROP_OLDEST displaces the oldest QUEUED entry (R91). -/
theorem deliver_displace {e : EntryId} (hx : (s.subs.read i).limit ≤ (s.subs.read i).queued)
    (hp : (s.subs.read i).policy = .dropOldest) (he : (s.queuedOf h i).head? = some e) :
    deliver m h i s = displace h m i e s := by
  simp [deliver, Nat.not_lt.2 hx, hp, he]

/-- Everything a delivery can do. -/
theorem deliver_cases (m : MsgId) (h : HostId) (i : SubId) (s : State) :
    ((s.subs.read i).queued < (s.subs.read i).limit ∧ ∃ e, s.freshEntry = some e
        ∧ deliver m h i s = appendEntry h m i e s)
      ∨ (∃ n, deliver m h i s = reportDrop h n s)
      ∨ ((s.subs.read i).limit ≤ (s.subs.read i).queued ∧ (s.subs.read i).policy = .dropOldest
        ∧ ∃ e, (s.queuedOf h i).head? = some e ∧ deliver m h i s = displace h m i e s) := by
  obtain hx | hx := Nat.lt_or_ge (s.subs.read i).queued (s.subs.read i).limit
  · cases he : s.freshEntry with
    | some e => exact .inl ⟨hx, e, rfl, deliver_below hx he⟩
    | none => exact .inr (.inl ⟨_, deliver_pool hx he⟩)
  · by_cases hp : (s.subs.read i).policy = .dropOldest
    · cases he : (s.queuedOf h i).head? with
      | some e => exact .inr (.inr ⟨hx, hp, e, rfl, deliver_displace hx hp he⟩)
      | none => exact .inr (.inl ⟨_, deliver_limit hx (.inr he)⟩)
    · exact .inr (.inl ⟨_, deliver_limit hx (.inl hp)⟩)

end

/-! ## The deliveries of a message (R56, R92) -/

/-- A message's deliveries, host by host: each host's by its carrier at the matching moment. -/
theorem createDeliveries_eq (m : MsgId) (s : State) :
    createDeliveries m s = allHosts.foldl (fun u h => match s.carrier (s.messages.read m) h with
      | some i => deliver m h i u
      | none => u) s := by
  rw [createDeliveries, State.targets, List.foldl_filterMap]
  congr 1
  funext u h
  cases s.carrier (s.messages.read m) h <;> rfl

/-- Settles O39: the outcomes of one delivery by the cases of its limit, policy and pool, and those of a message by
`createDeliveries_eq`. -/
theorem deliveryOutcome : Obligations.DeliveryOutcome := by
  refine ⟨fun s m h i => ⟨fun e hx hfree hlow => ?_, fun hx hfull => ?_, fun hx hp => ?_, fun e hx hp he => ?_⟩,
    fun s m carrier hc => ?_⟩
  · rw [deliver_below hx ((freshEntry_eq_some_iff s e).2 ⟨hfree, hlow⟩), appendEntry_eq]
  · rw [deliver_pool hx ((freshEntry_eq_none_iff s).2 hfull), reportDrop_eq]
    rfl
  · rw [← queuedOf_head] at hp
    rw [deliver_limit hx hp, reportDrop_eq]
    rfl
  · rw [← queuedOf_head] at he
    refine ⟨_, removed_removeEntry h e s, ?_⟩
    rw [deliver_displace hx hp he, displace, reportDrop_eq, appendEntry_eq]
    rfl
  · have hcarrier : carrier = s.carrier (s.messages.read m) := by
      funext h
      refine Option.ext fun i => ?_
      rw [hc, mem_targets]
    rw [createDeliveries_eq, hcarrier]
    rfl

end Sys2Proof.Machine
end

section
/-! SUPPORT. SUSPEND, RESUME and UNSUBSCRIBE: the record an index names, the owners by their tables, and the
requests. -/

namespace Sys2Proof.Machine

/-! ## The record an index names (R48, R51) -/

theorem ownedSub_eq_some_iff (s : State) (h : HostId) (a : Word16) (i : SubId) :
    s.ownedSub h a = some i ↔ i.val = a.toNat ∧ (s.subs.read i).state ≠ .free ∧ (s.subs.read i).owner = h := by
  unfold State.ownedSub
  by_cases hlt : a.toNat < 64
  · rw [dif_pos hlt]
    dsimp only
    constructor
    · intro ho
      split at ho
      · next hx =>
        cases ho
        exact ⟨rfl, hx⟩
      · cases ho
    · rintro ⟨hi, hx⟩
      obtain rfl : i = ⟨a.toNat, hlt⟩ := Fin.ext hi
      rw [if_pos hx]
  · rw [dif_neg hlt]
    exact ⟨nofun, fun ⟨hi, _⟩ => absurd (hi ▸ i.isLt) hlt⟩

/-- The refusal tables and the owners mean the same record. -/
theorem ownsIndex_eq (s : State) (h : HostId) (a : Word16) : s.ownsIndex h a = (s.ownedSub h a).isSome := by
  have hiff := ownedSub_eq_some_iff s h a
  rw [Bool.eq_iff_iff, Option.isSome_iff_exists]
  simp [State.ownsIndex, hiff, and_assoc]

theorem ownsIndex_closeTransaction (h g : HostId) (a : Word16) (s : State) :
    (closeTransaction h s).ownsIndex g a = s.ownsIndex g a := by
  simp [State.ownsIndex]

theorem ownedSub_closeTransaction (h g : HostId) (a : Word16) (s : State) :
    (closeTransaction h s).ownedSub g a = s.ownedSub g a := by
  simp [State.ownedSub]

theorem isJoined_closeTransaction (h g : HostId) (s : State) : (closeTransaction h s).isJoined g = s.isJoined g := by
  simp [State.isJoined]

/-! ## SUSPEND and RESUME (R51, R52) -/

/-- Everything SUSPEND and RESUME can do: a refusal by their table, or the state of the record the index names. -/
theorem ownerRest_cases (h : HostId) (rest : SubState) (l : Link) (s : State) :
    (∃ c, firstRefusal (restRefusals s h l.request) = some c ∧ ownerRest h rest l s = refuse c s)
      ∨ (firstRefusal (restRefusals s h l.request) = none ∧ ∃ i, s.ownedSub h l.request.a = some i
        ∧ ownerRest h rest l s =
          accept (s.modSub i (fun x => { x with state := rest })) (word (s.subs.read i).queued)) := by
  simp only [restRefusals, firstRefusal, ownerRest, ownsIndex_eq]
  cases s.isJoined h with
  | false => exact .inl ⟨.notJoined, by simp⟩
  | true =>
  cases s.ownedSub h l.request.a with
  | none => exact .inl ⟨.badIndex, by simp⟩
  | some i => exact .inr ⟨by simp, i, rfl, by simp⟩

/-- SUSPEND and RESUME by their table: the one argument for the two commands. -/
theorem endRequest_rest {s : State} {h : HostId} {k : Kind} {r : Request} (rest : SubState) (hc : s.carries h k r) :
    (∀ c, firstRefusal (restRefusals s h r) = some c →
        endRequest h (isKind k) (ownerRest h rest) s = .next (s.ended h c 0))
      ∧ ∀ i : SubId, firstRefusal (restRefusals s h r) = none → i.val = r.a.toNat →
        endRequest h (isKind k) (ownerRest h rest) s =
          .next { s.ended h .ok (BitVec.ofNat 16 (s.subs.read i).queued) with
            subs := s.subs.write i { s.subs.read i with state := rest } } := by
  obtain ⟨hc, hk⟩ := hc
  have ⟨_, _, _, hreq⟩ := hc
  have hcases := ownerRest_cases h rest (s.links.read h) (closeTransaction h s)
  simp only [restRefusals, ownsIndex_closeTransaction, ownedSub_closeTransaction, isJoined_closeTransaction, hreq,
    closeTransaction_frame] at hcases
  refine ⟨fun c hf => ?_, fun i hf hi => ?_⟩
  · obtain ⟨c', hf', ho⟩ | ⟨hf', -⟩ := hcases
    · obtain rfl : c = c' := Option.some.inj (hf.symm.trans hf')
      exact endRequest_refused hc (by simp [isKind, hk]) ho
    · cases hf.symm.trans hf'
  · obtain ⟨c', hf', -⟩ | ⟨-, j, hj, ho⟩ := hcases
    · cases hf.symm.trans hf'
    · obtain rfl : i = j := Fin.ext (hi.trans ((ownedSub_eq_some_iff s h r.a j).1 hj).1.symm)
      refine (endRequest_accepted hc (by simp [isKind, hk]) ho (by simp)).trans ?_
      simp [closeTransaction_eq, State.ended, State.setLink, State.modSub, Table.update, word]

/-- Settles O36, by `endRequest_rest` for each of the two. -/
theorem suspendAndResumeSetRecordState : Obligations.SuspendAndResumeSetRecordState := fun _ _ _ =>
  ⟨fun hc => endRequest_rest .suspended hc, fun hc => endRequest_rest .active hc⟩

/-! ## UNSUBSCRIBE (R48 to R50) -/

/-- The purge flag is the whole of D where D is in range. -/
theorem purgeFlag_eq {d : Byte} (hd : d.toNat < 2) : d.getLsbD 0 = decide (d = 1) := by
  obtain h0 | h1 : d = 0 ∨ d = 1 := by
    simp only [← BitVec.toNat_inj]
    simp
    omega
  · rw [h0]; rfl
  · rw [h1]; rfl

/-- Everything UNSUBSCRIBE can do: a refusal by its table, or the purge and freeing of the record the index names. -/
theorem ownerUnsubscribe_cases (h : HostId) (l : Link) (s : State) :
    (∃ c, firstRefusal (unsubscribeRefusals s h l.request) = some c ∧ ownerUnsubscribe h l s = refuse c s)
      ∨ (firstRefusal (unsubscribeRefusals s h l.request) = none ∧ ∃ i, s.ownedSub h l.request.a = some i
        ∧ ownerUnsubscribe h l s =
          accept (freeSubscription i (removeEntries h (s.purged h i (decide (l.request.d = 1))) s))
            (word (s.purged h i (decide (l.request.d = 1))).length)) := by
  simp only [unsubscribeRefusals, firstRefusal, ownerUnsubscribe, ownsIndex_eq]
  cases s.isJoined h with
  | false => exact .inl ⟨.notJoined, by simp⟩
  | true =>
  by_cases hd : 2 ≤ l.request.d.toNat
  · exact .inl ⟨.badRequest, by simp [hd]⟩
  cases s.ownedSub h l.request.a with
  | none => exact .inl ⟨.badIndex, by simp [hd]⟩
  | some i =>
    rw [purgeFlag_eq (Nat.not_le.1 hd)]
    exact .inr ⟨by simp [hd], i, rfl, by simp [hd]⟩

theorem removeEntries_ignoresLinks (h : HostId) (es : List EntryId) : IgnoresLinks (removeEntries h es) :=
  .foldl (removeEntry_ignoresLinks h) es

theorem freeSubscription_ignoresLinks (i : SubId) : IgnoresLinks (freeSubscription i) := fun _ _ => rfl

theorem closeTransaction_withLinks (h : HostId) (s : State) :
    closeTransaction h s = s.withLinks (closeTransaction h s).links := by
  rw [closeTransaction_eq]
  rfl

/-- A purge and a freeing look at no link, so the transaction may end before them or after. -/
theorem unsubscribe_closeTransaction (h : HostId) (i : SubId) (es : List EntryId) (s : State) :
    freeSubscription i (removeEntries h es (closeTransaction h s)) =
      (freeSubscription i (removeEntries h es s)).withLinks (closeTransaction h s).links := by
  rw [closeTransaction_withLinks, removeEntries_ignoresLinks h es s, freeSubscription_ignoresLinks]
  rfl

theorem purged_closeTransaction (h g : HostId) (i : SubId) (purge : Bool) (s : State) :
    (closeTransaction h s).purged g i purge = s.purged g i purge := by
  simp [State.purged, State.queuedOf]

/-- The removal of an entry lowers queued counts, and changes nothing else of a subscription (R100, R105). -/
theorem removeEntry_sub (h : HostId) (e : EntryId) (s : State) (i : SubId) :
    ∃ q ≤ (s.subs.read i).queued, (removeEntry h e s).subs.read i = { s.subs.read i with queued := q } := by
  rw [removeEntry_eq, release_subs]
  unfold State.unqueued
  cases (s.entries.read e).subscription with
  | none => exact ⟨_, le_rfl, rfl⟩
  | some j =>
    by_cases hi : i = j
    · subst hi
      exact ⟨_, Nat.sub_le _ 1, Table.read_write_self _ _ _⟩
    · exact ⟨_, le_rfl, Table.read_write_ne _ _ hi⟩

theorem removeEntries_sub (h : HostId) (es : List EntryId) (s : State) (i : SubId) :
    ∃ q ≤ (s.subs.read i).queued, (removeEntries h es s).subs.read i = { s.subs.read i with queued := q } := by
  refine foldl_invariant (P := fun t : State =>
    ∃ q ≤ (s.subs.read i).queued, t.subs.read i = { s.subs.read i with queued := q }) (fun t e ht => ?_) es
    ⟨_, le_rfl, rfl⟩
  obtain ⟨q, hq, ht⟩ := ht
  obtain ⟨p, hp, hu⟩ := removeEntry_sub h e t i
  rw [ht] at hp hu
  exact ⟨p, le_trans hp hq, hu⟩

/-- A purge leaves the queue without the purged entries, and the other queues as they were. -/
theorem removeEntries_queue {h : HostId} {s : State} (es : List EntryId) (hn : (s.queues.read h).Nodup) :
    (removeEntries h es s).queues.read h = (s.queues.read h).filter (fun e => e ∉ es) := by
  rw [removeEntries_queues, Table.read_write_self, ← List.diff_eq_foldl, hn.sdiff_eq_filter]

theorem removeEntries_queue_ne {h g : HostId} (es : List EntryId) (s : State) (hg : g ≠ h) :
    (removeEntries h es s).queues.read g = s.queues.read g := by
  rw [removeEntries_queues, Table.read_write_ne _ _ hg]

/-- Settles O35, by the cases of its owner, with `unsubscribe_closeTransaction` for the accepted request. -/
theorem unsubscribePurgesAndFrees : Obligations.UnsubscribePurgesAndFrees := by
  rintro s h r ⟨hc, hk⟩
  have ⟨_, _, _, hreq⟩ := hc
  have hcases := ownerUnsubscribe_cases h (s.links.read h) (closeTransaction h s)
  simp only [unsubscribeRefusals, ownsIndex_closeTransaction, ownedSub_closeTransaction, isJoined_closeTransaction,
    purged_closeTransaction, hreq] at hcases
  refine ⟨fun c hf => ?_, fun i hf hi => ?_⟩
  · obtain ⟨c', hf', ho⟩ | ⟨hf', -⟩ := hcases
    · obtain rfl : c = c' := Option.some.inj (hf.symm.trans hf')
      exact endRequest_refused hc (by simp [isKind, hk]) ho
    · cases hf.symm.trans hf'
  · obtain ⟨c', hf', -⟩ | ⟨-, j, hj, ho⟩ := hcases
    · cases hf.symm.trans hf'
    obtain ⟨hja, -⟩ := (ownedSub_eq_some_iff s h r.a j).1 hj
    obtain rfl : i = j := Fin.ext (hi.trans hja.symm)
    have hgone : (if r.d = 1 then (s.queues.read h).filter (fun e =>
        (s.entries.read e).state == .queued && (s.entries.read e).subscription == some i) else []) =
        s.purged h i (decide (r.d = 1)) := by
      by_cases hd : r.d = 1#8 <;> simp [State.purged, State.queuedOf, hd]
    dsimp only
    rw [hgone]
    generalize s.purged h i (decide (r.d = 1)) = gone at ho
    let u := removeEntries h gone s
    have hlinks : u.links = s.links := by simp [u]
    have hchannel : (u.subs.read i).channel = (s.subs.read i).channel := by
      obtain ⟨q, -, hq⟩ := removeEntries_sub h gone s i
      rw [hq]
    obtain ⟨hfreed, hentries⟩ := unsubscribed_freeSubscription i u
    rw [unsubscribe_closeTransaction] at ho
    refine ⟨u, _, endRequest_accepted hc (by simp [isKind, hk]) ho rfl,
      chain_foldl (fun s e => removed_removeEntry h e s) gone s, ?_, hentries, removeEntries_queue gone,
      fun g hg => removeEntries_queue_ne gone s hg⟩
    rw [hfreed]
    simp [State.ended, State.setLink, State.withLinks, hlinks, hchannel, word]

end Sys2Proof.Machine
end

section
/-! SUPPORT. The Subscription Table through a step: which records may take the place of a record, what a change keeps in
which no host departs and no channel closes, and that every shared operation is such a change. -/

namespace Sys2Proof.Machine

/-! ## One record -/

/-- What `subscriptionTableLaw` says of one record by itself (R42). -/
def Subscription.isOrderly (x : Subscription) : Prop :=
  (x.state = .free → x = Subscription.free)
    ∧ (x.state ≠ .free → x.policy ≠ .none ∧ 1 ≤ x.limit ∧ x.limit ≤ Config.maxLimit ∧ x.queued ≤ x.limit)

/-- A record's next value is orderly if the record is, and is FREE or a subscription of the same owner to the same
channel. -/
structure Subscription.MayBecome (x y : Subscription) : Prop where
  orderly : x.isOrderly → y.isOrderly
  place : y.state ≠ .free → x.state ≠ .free ∧ y.owner = x.owner ∧ y.channel = x.channel

theorem subscriptionTableLaw_iff (s : State) :
    subscriptionTableLaw s ↔ (∀ i, (s.subs.read i).isOrderly)
      ∧ ∀ i, (s.subs.read i).state ≠ .free →
          s.isJoined (s.subs.read i).owner = true ∧ (s.channels.read (s.subs.read i).channel).state = .opened :=
  ⟨fun ⟨hfree, hused⟩ =>
      ⟨fun i => ⟨hfree i, fun hi => (hused i hi).2.2⟩, fun i hi => ⟨(hused i hi).1, (hused i hi).2.1⟩⟩,
    fun ⟨ho, hplace⟩ => ⟨fun i => (ho i).1, fun i hi => ⟨(hplace i hi).1, (hplace i hi).2, (ho i).2 hi⟩⟩⟩

theorem Subscription.free_isOrderly : Subscription.free.isOrderly := ⟨fun _ => rfl, fun h => absurd rfl h⟩

namespace Subscription.MayBecome

variable {x y z : Subscription}

theorem refl (x : Subscription) : x.MayBecome x := ⟨id, fun h => ⟨h, rfl, rfl⟩⟩

theorem trans (hxy : x.MayBecome y) (hyz : y.MayBecome z) : x.MayBecome z where
  orderly h := hyz.orderly (hxy.orderly h)
  place h := by
    obtain ⟨hy, ho, hc⟩ := hyz.place h
    obtain ⟨hx, ho', hc'⟩ := hxy.place hy
    exact ⟨hx, ho.trans ho', hc.trans hc'⟩

theorem freed (x : Subscription) : x.MayBecome Subscription.free := ⟨fun _ => free_isOrderly, fun h => absurd rfl h⟩

/-- Another queued count, within the limit if the last one was. -/
theorem requeued {q : Nat} (hq : x.isOrderly → q ≤ x.queued ∨ q ≤ x.limit) : x.MayBecome { x with queued := q } where
  orderly h := by
    have hle : q ≤ x.queued ∨ q ≤ x.limit := hq h
    refine ⟨fun hf => ?_, fun hf => ?_⟩
    · have hx : x = Subscription.free := h.1 hf
      have h0 : q = 0 := by
        rw [hx] at hle
        simpa [Subscription.free] using hle
      rw [hx, h0]
      rfl
    · obtain ⟨hp, hmin, hmax, hlimit⟩ := h.2 hf
      exact ⟨hp, hmin, hmax, hle.elim (fun hl => le_trans hl hlimit) id⟩
  place h := ⟨h, rfl, rfl⟩

/-- A SUSPEND or a RESUME of a record in use (R51, R52). -/
theorem rested {r : SubState} (hx : x.state ≠ .free) (hr : r ≠ .free) : x.MayBecome { x with state := r } :=
  ⟨fun h => ⟨fun hf => absurd hf hr, fun _ => h.2 hx⟩, fun _ => ⟨hx, rfl, rfl⟩⟩

end Subscription.MayBecome

/-! ## The table -/

theorem subscriptionTableLaw_of_all_free {t : State} (h : t.subs = Vector.replicate 64 Subscription.free) :
    subscriptionTableLaw t := by
  rw [subscriptionTableLaw_iff, h]
  simp only [Table.read_replicate]
  exact ⟨fun _ => Subscription.free_isOrderly, fun _ hi => absurd rfl hi⟩

/-- A state whose records have each become what they may keeps the law, if no subscription lost its owner or channel. -/
theorem subscriptionTableLaw_of_mayBecome {s t : State} (hl : subscriptionTableLaw s)
    (hsubs : ∀ i, (s.subs.read i).MayBecome (t.subs.read i))
    (hplace : ∀ i, (t.subs.read i).state ≠ .free →
      (s.isJoined (t.subs.read i).owner = true → t.isJoined (t.subs.read i).owner = true)
        ∧ ((s.channels.read (t.subs.read i).channel).state = .opened →
          (t.channels.read (t.subs.read i).channel).state = .opened)) : subscriptionTableLaw t := by
  obtain ⟨horderly, hused⟩ := (subscriptionTableLaw_iff s).1 hl
  refine (subscriptionTableLaw_iff t).2 ⟨fun i => (hsubs i).orderly (horderly i), fun i hi => ?_⟩
  obtain ⟨hi', ho, hc⟩ := (hsubs i).place hi
  obtain ⟨hj, hopen⟩ := hused i hi'
  rw [← ho] at hj
  rw [← hc] at hopen
  exact ⟨(hplace i hi).1 hj, (hplace i hi).2 hopen⟩

/-- The same, where the records are as they were. -/
theorem subscriptionTableLaw_of_subs_eq {s t : State} (hl : subscriptionTableLaw s) (hs : t.subs = s.subs)
    (hplace : ∀ i, (s.subs.read i).state ≠ .free →
      (s.isJoined (s.subs.read i).owner = true → t.isJoined (s.subs.read i).owner = true)
        ∧ ((s.channels.read (s.subs.read i).channel).state = .opened →
          (t.channels.read (s.subs.read i).channel).state = .opened)) : subscriptionTableLaw t := by
  refine subscriptionTableLaw_of_mayBecome hl (fun i => ?_) (by rw [hs]; exact hplace)
  rw [hs]
  exact .refl _

/-- A change in which no JOINED host departs, no OPEN channel closes, and each record becomes what it may. -/
structure KeepsSubscriptions (s t : State) : Prop where
  joined : ∀ h, s.isJoined h = true → t.isJoined h = true
  opened : ∀ c, (s.channels.read c).state = .opened → (t.channels.read c).state = .opened
  subs : ∀ i, (s.subs.read i).MayBecome (t.subs.read i)

theorem isJoined_of_members_eq {s t : State} (hm : t.members = s.members) (h : HostId) :
    t.isJoined h = s.isJoined h := by
  rw [State.isJoined, hm, State.isJoined]

namespace KeepsSubscriptions

variable {s t u : State}

theorem law (hk : KeepsSubscriptions s t) (hl : subscriptionTableLaw s) : subscriptionTableLaw t :=
  subscriptionTableLaw_of_mayBecome hl hk.subs fun _ _ => ⟨hk.joined _, hk.opened _⟩

theorem trans (hst : KeepsSubscriptions s t) (htu : KeepsSubscriptions t u) : KeepsSubscriptions s u :=
  ⟨fun h hs => htu.joined h (hst.joined h hs), fun c hs => htu.opened c (hst.opened c hs),
    fun i => (hst.subs i).trans (htu.subs i)⟩

/-- The records and the hosts are as they were. -/
theorem of_opened (hs : t.subs = s.subs) (hm : t.members = s.members)
    (ho : ∀ c, (s.channels.read c).state = .opened → (t.channels.read c).state = .opened) : KeepsSubscriptions s t :=
  ⟨fun h hj => (isJoined_of_members_eq hm h).trans hj, ho, fun i => by rw [hs]; exact .refl _⟩

/-- The records, the hosts and the channels are as they were. -/
theorem of_eq (hs : t.subs = s.subs) (hm : t.members = s.members) (hc : t.channels = s.channels) :
    KeepsSubscriptions s t := of_opened hs hm fun c ho => by rw [hc]; exact ho

theorem refl (s : State) : KeepsSubscriptions s s := of_eq rfl rfl rfl

theorem foldl {α : Type} {f : State → α → State} (hf : ∀ s a, KeepsSubscriptions s (f s a)) (l : List α) (s : State) :
    KeepsSubscriptions s (l.foldl f s) :=
  foldl_invariant (P := KeepsSubscriptions s) (fun t a ht => ht.trans (hf t a)) l (refl s)

/-- A host record that keeps its state. -/
theorem modMember (s : State) (h : HostId) {f : Member → Member} (hf : ∀ x, (f x).state = x.state) :
    KeepsSubscriptions s (s.modMember h f) where
  joined g hj := by
    by_cases hg : g = h
    · subst hg
      simpa [State.isJoined, hf] using hj
    · simpa [State.isJoined, Table.read_update, hg] using hj
  opened _ ho := ho
  subs _ := .refl _

/-- A channel record that keeps its state if it is OPEN. -/
theorem modChannel (s : State) {c : ChanId} {f : Channel → Channel}
    (hf : (s.channels.read c).state = .opened → (f (s.channels.read c)).state = .opened) :
    KeepsSubscriptions s (s.modChannel c f) :=
  of_opened rfl rfl fun d hd => by
    rw [State.modChannel_channels, Table.read_update]
    split
    · next hdc => rw [hdc] at hd; exact hf hd
    · exact hd

end KeepsSubscriptions

theorem subscriptionTableLaw_of_eq {s t : State} (hl : subscriptionTableLaw s) (hs : t.subs = s.subs)
    (hm : t.members = s.members) (hc : t.channels = s.channels) : subscriptionTableLaw t :=
  (KeepsSubscriptions.of_eq hs hm hc).law hl

/-! ## The shared operations -/

/-- A freeing closes a DRAINING channel, and no OPEN one (R19, R39). -/
theorem keepsSubscriptions_freeMessage (m : MsgId) (s : State) : KeepsSubscriptions s (freeMessage m s) := by
  refine .of_opened (by simp) (by simp) fun c ho => ?_
  rw [(freed_freeMessage m s).channels c]
  split
  · exact ho
  · split
    · next hd => simp [ho] at hd
    · exact ho

theorem keepsSubscriptions_release (m : MsgId) (s : State) : KeepsSubscriptions s (release m s) := by
  have hcount : KeepsSubscriptions s (s.modMessage m (fun x => { x with refCount := x.refCount - 1 })) :=
    .of_eq rfl rfl rfl
  unfold release
  dsimp only
  split
  · exact hcount.trans (keepsSubscriptions_freeMessage m _)
  · exact hcount

theorem keepsSubscriptions_abortMessage (m : MsgId) (s : State) : KeepsSubscriptions s (abortMessage m s) := by
  have hmark : KeepsSubscriptions s (s.markAborted m) := .of_eq rfl rfl rfl
  rw [abortMessage_eq]
  exact (hmark.trans (keepsSubscriptions_release m _)).trans (.of_eq (by simp) (by simp) (by simp))

theorem keepsSubscriptions_removeEntry (h : HostId) (e : EntryId) (s : State) :
    KeepsSubscriptions s (removeEntry h e s) := by
  have hrelease := keepsSubscriptions_release (s.entries.read e).message (s.unqueued h e)
  rw [← removeEntry_eq] at hrelease
  refine ⟨hrelease.joined, hrelease.opened, fun i => ?_⟩
  obtain ⟨q, hq, hi⟩ := removeEntry_sub h e s i
  rw [hi]
  exact .requeued fun _ => .inl hq

theorem keepsSubscriptions_removeEntries (h : HostId) (es : List EntryId) (s : State) :
    KeepsSubscriptions s (removeEntries h es s) := .foldl (fun s e => keepsSubscriptions_removeEntry h e s) es s

theorem freeSubscription_subs (i : SubId) (s : State) :
    (freeSubscription i s).subs = s.subs.write i Subscription.free := rfl

theorem keepsSubscriptions_freeSubscription (i : SubId) (s : State) :
    KeepsSubscriptions s (freeSubscription i s) := by
  have hchannel : KeepsSubscriptions s (s.modChannel (s.subs.read i).channel
    (fun c => { c with subscriberCount := c.subscriberCount - 1 })) := .modChannel s id
  refine ⟨hchannel.joined, hchannel.opened, fun j => ?_⟩
  rw [freeSubscription_subs, Table.read_write]
  split
  · exact .freed _
  · exact .refl _

theorem keepsSubscriptions_reportDrop (h : HostId) (n : Notice) (s : State) :
    KeepsSubscriptions s (reportDrop h n s) := .of_eq (by simp) (by simp) (by simp)

/-- One delivery more, for a record that has room for it once it is orderly. -/
theorem keepsSubscriptions_appendEntry {i : SubId} {s : State} (h : HostId) (m : MsgId) (e : EntryId)
    (hroom : (s.subs.read i).isOrderly → (s.subs.read i).queued < (s.subs.read i).limit) :
    KeepsSubscriptions s (appendEntry h m i e s) := by
  rw [appendEntry_eq]
  refine ⟨fun _ hj => hj, fun _ ho => ho, fun j => ?_⟩
  rw [State.appended, Table.read_write]
  split
  · next hj =>
    rw [hj]
    exact .requeued fun ho => .inr (hroom ho)
  · exact .refl _

/-- An entry that a subscription's delivery displaces was one of its own, so its removal makes the room (R91). -/
theorem removeEntry_sub_of_head {h : HostId} {i : SubId} {e : EntryId} {s : State}
    (he : (s.queuedOf h i).head? = some e) :
    (removeEntry h e s).subs.read i = { s.subs.read i with queued := (s.subs.read i).queued - 1 } := by
  have hmem := List.mem_of_mem_head? he
  simp only [State.queuedOf, List.mem_filter, Bool.and_eq_true, beq_iff_eq] at hmem
  obtain ⟨-, -, hsub⟩ := hmem
  rw [removeEntry_eq, release_subs, State.unqueued, hsub]
  exact Table.read_write_self _ _ _

theorem displace_subs (h : HostId) (m : MsgId) (i : SubId) (e : EntryId) (s : State) :
    (displace h m i e s).subs =
      (removeEntry h e s).subs.update i (fun x => { x with queued := x.queued + 1 }) := by
  simp [displace, appendEntry_eq, State.appended, Table.update]

theorem displace_channels (h : HostId) (m : MsgId) (i : SubId) (e : EntryId) (s : State) :
    (displace h m i e s).channels = (removeEntry h e s).channels := by
  simp [displace]

/-- A DROP_OLDEST record at its limit has, if it is orderly, a delivery queued, so a displacement leaves as many. -/
theorem keepsSubscriptions_displace {h : HostId} {m : MsgId} {i : SubId} {e : EntryId} {s : State}
    (hlimit : (s.subs.read i).limit ≤ (s.subs.read i).queued) (hp : (s.subs.read i).policy = .dropOldest)
    (he : (s.queuedOf h i).head? = some e) : KeepsSubscriptions s (displace h m i e s) := by
  have hremoved := keepsSubscriptions_removeEntry h e s
  refine ⟨fun g hj => (isJoined_of_members_eq (by simp) g).trans hj, fun c ho => ?_, fun j => ?_⟩
  · rw [displace_channels]
    exact hremoved.opened c ho
  · rw [displace_subs, Table.read_update]
    split
    · next hj =>
      rw [hj, removeEntry_sub_of_head he]
      refine .requeued fun ho => .inl ?_
      have hused : (s.subs.read i).state ≠ .free := fun hf => by simp [ho.1 hf, Subscription.free] at hp
      obtain ⟨-, hmin, -, -⟩ := ho.2 hused
      dsimp only
      omega
    · exact hremoved.subs j

theorem keepsSubscriptions_deliver (m : MsgId) (h : HostId) (i : SubId) (s : State) :
    KeepsSubscriptions s (deliver m h i s) := by
  obtain ⟨hx, e, -, ho⟩ | ⟨n, ho⟩ | ⟨hx, hp, e, he, ho⟩ := deliver_cases m h i s <;> rw [ho]
  · exact keepsSubscriptions_appendEntry h m e fun _ => hx
  · exact keepsSubscriptions_reportDrop h n s
  · exact keepsSubscriptions_displace hx hp he

theorem keepsSubscriptions_createDeliveries (m : MsgId) (s : State) :
    KeepsSubscriptions s (createDeliveries m s) := by
  unfold createDeliveries
  exact .foldl (fun s (t : HostId × SubId) => keepsSubscriptions_deliver m t.1 t.2 s) _ s

/-! ## Closes (R35 to R37) -/

theorem keepsSubscriptions_post (h : HostId) (n : Notice) (s : State) : KeepsSubscriptions s (post h n s) :=
  .of_eq (by simp) (by simp) (by simp)

theorem keepsSubscriptions_closeAborts (c : ChanId) (s : State) : KeepsSubscriptions s (closeAborts c s) := by
  unfold closeAborts
  exact .foldl (fun s m => (keepsSubscriptions_abortMessage m s).trans (keepsSubscriptions_post _ _ _)) _ s

theorem keepsSubscriptions_closeSubscriptions (c : ChanId) (s : State) :
    KeepsSubscriptions s (closeSubscriptions c s) := by
  unfold closeSubscriptions
  exact .foldl (fun s i => (keepsSubscriptions_freeSubscription i s).trans (keepsSubscriptions_post _ _ _)) _ s

/-- Records freed one after another. -/
theorem foldl_freed_subs {f : State → SubId → State} (hf : ∀ s i, (f s i).subs = s.subs.write i Subscription.free)
    (l : List SubId) (s : State) (i : SubId) :
    (l.foldl f s).subs.read i = if i ∈ l then Subscription.free else s.subs.read i := by
  induction l generalizing s with
  | nil => simp
  | cons a l ih =>
    rw [List.foldl_cons, ih, hf, Table.read_write]
    by_cases hl : i ∈ l <;> by_cases ha : i = a <;> simp [hl, ha]

/-- The second step of a close leaves no subscription on the slot (R36). -/
theorem closeSubscriptions_channel {c : ChanId} {s : State} {i : SubId}
    (hi : ((closeSubscriptions c s).subs.read i).state ≠ .free) :
    ((closeSubscriptions c s).subs.read i).channel ≠ c := by
  have hsubs : (closeSubscriptions c s).subs.read i =
      if i ∈ s.subs.indices (fun x => x.state != .free && x.channel == c) then Subscription.free
      else s.subs.read i := by
    unfold closeSubscriptions
    exact foldl_freed_subs (fun t i => by simp [closeSubscription, freeSubscription_subs]) _ s i
  rw [hsubs] at hi ⊢
  split at hi
  · exact absurd rfl hi
  · next hn =>
    rw [if_neg hn]
    simp only [Table.mem_indices, Bool.and_eq_true, bne_iff_ne, ne_eq, beq_iff_eq, not_and] at hn
    exact hn hi

/-- A close frees its slot's subscriptions before the slot changes (R36, R37). -/
theorem subscriptionTableLaw_closeChannel {s : State} (hl : subscriptionTableLaw s) (c : ChanId) :
    subscriptionTableLaw (closeChannel c s) := by
  have haborted := (keepsSubscriptions_closeAborts c s).law hl
  have hfreed := (keepsSubscriptions_closeSubscriptions c (closeAborts c s)).law haborted
  rw [closeChannel]
  refine subscriptionTableLaw_of_subs_eq hfreed (by simp) fun i hi =>
    ⟨fun hj => (isJoined_of_members_eq (State.modChannel_members _ _ _) _).trans hj, fun ho => ?_⟩
  rw [State.modChannel_channels, Table.read_update_ne _ _ (closeSubscriptions_channel hi)]
  exact ho

/-! ## Departures and clears (R154, R162, R163) -/

theorem keepsSubscriptions_silenced (h : HostId) (s : State) : KeepsSubscriptions s (s.silenced h) := by
  have hfree : KeepsSubscriptions s (freeSubscriptionsOf h s) := by
    unfold freeSubscriptionsOf
    exact .foldl (fun s i => keepsSubscriptions_freeSubscription i s) _ s
  have hqueue : KeepsSubscriptions s (s.unsubscribed h) := hfree.trans (keepsSubscriptions_removeEntries h _ _)
  have habort : KeepsSubscriptions (s.unsubscribed h) (abortFillingOf h (s.unsubscribed h)) := by
    unfold abortFillingOf
    split
    · exact keepsSubscriptions_abortMessage _ _
    · exact .refl _
  have hwithdraw : KeepsSubscriptions (abortFillingOf h (s.unsubscribed h)) (s.silenced h) := by
    unfold State.silenced
    exact .of_eq (by simp) (by simp) (by simp)
  exact (hqueue.trans habort).trans hwithdraw

theorem silenced_subs (h : HostId) (s : State) : (s.silenced h).subs = (s.unsubscribed h).subs := by
  simp [State.silenced]

theorem Channel.disown_state (h : HostId) (c : Channel) : (c.disown h).state = c.state := by
  unfold Channel.disown
  split <;> rfl

/-- A departing host's subscriptions are FREE before it is no longer JOINED (steps 1 and 9 of R154). -/
theorem subscriptionTableLaw_dismantle {s : State} (hl : subscriptionTableLaw s) (h : HostId) (final : Membership) :
    subscriptionTableLaw (dismantle h final s) := by
  have hsilenced := keepsSubscriptions_silenced h s
  rw [dismantle_eq]
  refine subscriptionTableLaw_of_subs_eq (hsilenced.law hl) rfl fun i hi => ⟨fun hj => ?_, fun ho => ?_⟩
  · have howner : ((s.silenced h).subs.read i).owner ≠ h := by
      intro heq
      rw [((hsilenced.subs i).place hi).2.1] at heq
      rw [silenced_subs] at hi
      exact hi (unsubscribed_subState heq)
    simpa [State.isJoined, Table.read_write, howner] using hj
  · simpa [Channel.disown_state] using ho

theorem subscriptionTableLaw_exchangeClear (s : State) : subscriptionTableLaw (exchangeClear s) := by
  refine subscriptionTableLaw_of_all_free ?_
  unfold exchangeClear
  refine (foldl_keeps State.subs _ _ _ (by simp)).trans ?_
  simp [clearTables]

theorem subscriptionTableLaw_judgeVote {s : State} (hl : subscriptionTableLaw s) :
    subscriptionTableLaw (judgeVote s) := by
  unfold judgeVote
  split
  · exact hl
  · split
    · exact subscriptionTableLaw_of_eq hl (by simp) (by simp) (by simp)
    · split
      · exact subscriptionTableLaw_exchangeClear _
      · exact hl

theorem subscriptionTableLaw_teardown {s : State} (hl : subscriptionTableLaw s) (h : HostId) (final : Membership)
    (n : Notice) : subscriptionTableLaw (teardown h final n s) := by
  have hd := subscriptionTableLaw_dismantle hl h final
  have hv : subscriptionTableLaw (withdrawVote h (dismantle h final s)) := by
    unfold withdrawVote
    exact subscriptionTableLaw_judgeVote (subscriptionTableLaw_of_eq hd (by simp only) (by simp only) (by simp only))
  rw [teardown_eq]
  exact subscriptionTableLaw_of_eq hv (by simp) (by simp) (by simp)

end Sys2Proof.Machine
end

section
/-! SUPPORT. Laws that do not look at the links, through the shared forms of a command: a link's own part of a command
keeps such a law, so it is kept if the owner, the commit or the answer keeps it. -/

namespace Sys2Proof.Machine

/-- A law that does not look at the links. -/
def LinkBlind (P : State → Prop) : Prop := ∀ s L, P s → P (s.withLinks L)

/-! ## The link's own part -/

theorem deselect_withLinks (h : HostId) (s : State) : deselect h s = s.withLinks (deselect h s).links := rfl

theorem setLast_withLinks (h : HostId) (r : Reply) (b : Byte) (s : State) :
    setLast h r b s = s.withLinks (setLast h r b s).links := rfl

theorem captureByte_withLinks (h : HostId) (b : Byte) (s : State) :
    captureByte h b s = s.withLinks (captureByte h b s).links := rfl

theorem respond_withLinks (h : HostId) (p : PendingResult) (s : State) :
    respond h p s = s.withLinks (respond h p s).links := rfl

theorem awaitPayload_withLinks (h : HostId) (n : Nat) (s : State) :
    awaitPayload h n s = s.withLinks (awaitPayload h n s).links := rfl

/-! ## The shared forms -/

section
variable {P : State → Prop} (hP : LinkBlind P) {s t : State} {h : HostId} (hs : P s)
include hP

/-- A state that differs in its links alone. -/
theorem LinkBlind.of_withLinks (hs : P s) (ht : t = s.withLinks t.links) : P t := by
  rw [ht]
  exact hP s t.links hs

include hs

theorem LinkBlind.deselectAfterEvent (ht : deselectAfterEvent h s = .next t) : P t := by
  obtain ⟨rfl, -⟩ := deselectAfterEvent_cases ht
  exact hP.of_withLinks hs (deselect_withLinks h s)

theorem LinkBlind.endRequest {which : Request → Bool} {owner : Link → State → State × Reply}
    (ht : endRequest h which owner s = .next t) (ho : ∀ l u, P u → P (owner l u).1) : P t := by
  obtain ⟨r, -, -, rfl⟩ | ht := endRequest_cases ht
  · exact hP.of_withLinks (ho _ _ (hP.of_withLinks hs (closeTransaction_withLinks h s))) (setLast_withLinks _ _ _ _)
  · exact hP.deselectAfterEvent hs ht

theorem LinkBlind.endRead {k : Kind} {owner : Commit → State → State}
    (ht : endRead h k owner s = .next t) (ho : ∀ c u, P u → P (owner c u)) : P t := by
  obtain ⟨p, -, rfl⟩ | ht := endRead_cases ht
  · exact hP.of_withLinks (ho _ _ (hP.of_withLinks hs (closeTransaction_withLinks h s))) (setLast_withLinks _ _ _ _)
  · exact hP.deselectAfterEvent hs ht

theorem LinkBlind.headerEnd {b : Byte} {good : Bool} {which : Request → Bool} {answer : Request → State → State}
    (ht : headerEnd h b good which answer s = .next t) (ha : ∀ r u, P u → P (answer r u)) : P t := by
  obtain ⟨-, -, rfl⟩ | rfl := headerEnd_cases ht
  · exact ha _ _ (hP.of_withLinks hs (captureByte_withLinks h b s))
  · exact hs

end

/-! ## The owners of SET -/

section
variable {P : State → Prop} {store : Word16 → State → State} (hstore : ∀ b u, P u → P (store b u))
  {s : State} (hs : P s)
include hstore hs

theorem ownerSetOwn_keeps (h : HostId) (inRange : Nat → Bool) (l : Link) : P (ownerSetOwn h inRange store l s).1 := by
  unfold ownerSetOwn
  dsimp only
  split
  · exact hs
  split
  · exact hs
  · exact hstore _ _ hs

theorem ownerSetShared_keeps (h : HostId) (inRange : Nat → Bool) (l : Link) :
    P (ownerSetShared h inRange store l s).1 := by
  unfold ownerSetShared
  dsimp only
  split
  · exact hs
  split
  · exact hs
  split
  · exact hs
  · exact hstore _ _ hs

end

/-! ## The events of a link alone -/

section
variable {s t : State} {h : HostId}

theorem execSelAsserted_withLinks (ht : execSelAsserted h s = .next t) : t = s.withLinks t.links := by
  unfold execSelAsserted at ht
  dsimp only at ht
  split at ht
  · cases ht
  · split at ht <;> cases ht <;> rfl

theorem execHeaderByteArrival_withLinks {b : Byte} (ht : execHeaderByteArrival h b s = .next t) :
    t = s.withLinks t.links := by
  unfold execHeaderByteArrival at ht
  dsimp only at ht
  split at ht
  · cases ht
    rfl
  · split at ht <;> cases ht
    rfl

theorem execPayloadByteArrival_withLinks {b : Byte} (ht : execPayloadByteArrival h b s = .next t) :
    t = s.withLinks t.links := by
  unfold execPayloadByteArrival at ht
  dsimp only at ht
  split at ht
  · split at ht <;> cases ht <;> rfl
  · split at ht <;> cases ht
    rfl

theorem execResponseByteArrival_withLinks (ht : execResponseByteArrival h s = .next t) :
    t = s.withLinks t.links := by
  unfold execResponseByteArrival at ht
  dsimp only at ht
  split at ht
  · split at ht <;> cases ht <;> rfl
  · split at ht <;> cases ht
    rfl

theorem execSelectSeen_withLinks (ht : execSelectSeen h s = .next t) : t = s.withLinks t.links := by
  unfold execSelectSeen at ht
  dsimp only at ht
  split at ht <;> cases ht
  rfl

end

/-! ## The answers of the reads -/

section
variable (h : HostId) (r : Request) (s : State)

theorem answerGet_withLinks : answerGet h r s = s.withLinks (answerGet h r s).links := by
  unfold answerGet
  split <;> exact respond_withLinks h _ s

theorem answerFetchNotice_withLinks : answerFetchNotice h r s = s.withLinks (answerFetchNotice h r s).links :=
  respond_withLinks h _ s

theorem answerReadCounter_withLinks : answerReadCounter h r s = s.withLinks (answerReadCounter h r s).links := by
  unfold answerReadCounter
  split <;> exact respond_withLinks h _ s

theorem answerFindChannel_withLinks : answerFindChannel h r s = s.withLinks (answerFindChannel h r s).links := by
  unfold answerFindChannel
  split <;> exact respond_withLinks h _ s

/-- A TAKE's header may also open its entry (R97). -/
theorem answerTake_withLinks :
    answerTake h r s =
      ({ s with entries := (answerTake h r s).entries } : State).withLinks (answerTake h r s).links := by
  unfold answerTake
  split
  · exact respond_withLinks h _ s
  split
  · exact respond_withLinks h _ s
  split
  · exact respond_withLinks h _ s
  · unfold answerTakeHead
    dsimp only
    split <;> rfl

end

/-- The answer to any good header keeps a law that looks at neither the links nor the opening of an entry. -/
theorem LinkBlind.answerKind {P : State → Prop} (hP : LinkBlind P) {s : State} {h : HostId} {r : Request}
    (htake : P s → P (answerTake h r s)) (hs : P s) : P (answerKind h r s) := by
  unfold Machine.answerKind
  split
  · exact hP.of_withLinks hs (answerGet_withLinks h r s)
  · exact hP.of_withLinks hs (answerFetchNotice_withLinks h r s)
  · exact hP.of_withLinks hs (answerReadCounter_withLinks h r s)
  · exact hP.of_withLinks hs (answerFindChannel_withLinks h r s)
  · exact htake hs
  · exact hP.of_withLinks hs (awaitPayload_withLinks h _ s)

end Sys2Proof.Machine
end

section
/-! SUPPORT. The Subscription Table through every command: what each request can leave, and the step lemma. -/

namespace Sys2Proof.Machine

theorem subscriptionTableLaw_linkBlind : LinkBlind subscriptionTableLaw := fun _ _ hl => hl

/-! ## Requests in which no host departs and no channel closes -/

section
variable (h : HostId) (l : Link) (s : State)

theorem keepsSubscriptions_storeThreshold (b : Word16) : KeepsSubscriptions s (storeThreshold h b s) := by
  have hstored : KeepsSubscriptions s (s.modMember h (fun x => { x with creditThreshold := b.toNat })) :=
    .modMember s h fun _ => rfl
  unfold storeThreshold
  dsimp only
  split
  · exact hstored.trans (.of_eq (by simp) (by simp) (by simp))
  · exact hstored

theorem keepsSubscriptions_ownerAck : KeepsSubscriptions s (ownerAck h l s).1 := by
  unfold ownerAck
  dsimp only
  split
  · exact .refl s
  · exact .of_eq (by simp) (by simp) (by simp)

theorem keepsSubscriptions_ownerPut : KeepsSubscriptions s (ownerPut h l s).1 := by
  unfold ownerPut
  dsimp only
  split
  · exact .refl s
  split
  · exact .refl s
  split
  · exact .refl s
  split
  · exact .refl s
  split
  · exact .refl s
  · exact .of_eq (by simp) (by simp) (by simp)

/-- A SUSPEND or a RESUME names a record in use, and leaves it in use (R51, R52). -/
theorem keepsSubscriptions_ownerRest {rest : SubState} (hrest : rest ≠ .free) :
    KeepsSubscriptions s (ownerRest h rest l s).1 := by
  obtain ⟨c, -, ho⟩ | ⟨-, i, hi, ho⟩ := ownerRest_cases h rest l s <;> rw [ho]
  · exact .refl s
  obtain ⟨-, hused, -⟩ := (ownedSub_eq_some_iff s h l.request.a i).1 hi
  refine ⟨fun _ hj => hj, fun _ hc => hc, fun j => ?_⟩
  rw [accept_fst, State.modSub_subs, Table.read_update]
  split
  · next hj =>
    rw [hj]
    exact .rested hused hrest
  · exact .refl _

theorem keepsSubscriptions_ownerUnsubscribe : KeepsSubscriptions s (ownerUnsubscribe h l s).1 := by
  obtain ⟨c, -, ho⟩ | ⟨-, i, -, ho⟩ := ownerUnsubscribe_cases h l s <;> rw [ho]
  · exact .refl s
  · exact (keepsSubscriptions_removeEntries h _ s).trans (keepsSubscriptions_freeSubscription i _)

theorem keepsSubscriptions_ownerSkip : KeepsSubscriptions s (ownerSkip h l s).1 := by
  unfold ownerSkip
  split
  · exact .refl s
  split
  · exact .refl s
  · exact keepsSubscriptions_removeEntry h _ s

theorem keepsSubscriptions_ownerAbort : KeepsSubscriptions s (ownerAbort h l s).1 := by
  unfold ownerAbort
  split
  · exact .refl s
  split
  · exact .refl s
  · exact keepsSubscriptions_abortMessage _ s

theorem keepsSubscriptions_sealMessage (m : MsgId) : KeepsSubscriptions s (sealMessage m s) := by
  have hsealed : KeepsSubscriptions s (s.modMessage m (fun x => { x with state := .sealed })) := .of_eq rfl rfl rfl
  unfold sealMessage
  dsimp only
  split
  · exact hsealed.trans (keepsSubscriptions_createDeliveries m _)
  · exact hsealed

theorem keepsSubscriptions_ownerSeal : KeepsSubscriptions s (ownerSeal h l s).1 := by
  unfold ownerSeal
  dsimp only
  split
  · exact .refl s
  split
  · exact .refl s
  next m _ =>
  split
  · exact .refl s
  · rw [accept_fst]
    have hreleased := (keepsSubscriptions_sealMessage s m).trans (keepsSubscriptions_release m _)
    exact hreleased.trans (.of_eq (by simp) (by simp) (by simp))

theorem keepsSubscriptions_startMessage (r : Request) (i : ChanId) (m : MsgId) :
    KeepsSubscriptions s (startMessage h r i m s) := by
  have hmade : KeepsSubscriptions s ((s.modMessage m (fun _ => newMessage h r i (s.channels.read i))).modChannel i
      (fun x => { x with nextSequence := x.nextSequence + 1, liveCount := x.liveCount + 1 })) :=
    .trans (t := s.modMessage m (fun _ => newMessage h r i (s.channels.read i))) (.of_eq rfl rfl rfl)
      (.modChannel _ id)
  unfold startMessage
  dsimp only
  split
  · exact hmade.trans (keepsSubscriptions_createDeliveries m _)
  · exact hmade

theorem keepsSubscriptions_ownerBegin : KeepsSubscriptions s (ownerBegin h l s).1 := by
  have harbitrated : KeepsSubscriptions s (arbitrate h s).1 := .of_eq (by simp) (by simp) (by simp)
  obtain ho | ho | ⟨i, m, -, ho⟩ := ownerBegin_cases h l s <;> rw [ho]
  · exact .refl s
  · exact harbitrated
  · exact harbitrated.trans (keepsSubscriptions_startMessage h _ _ i m)

/-- A channel opens in a slot that is CLOSED, so no OPEN one is lost (R32). -/
theorem keepsSubscriptions_ownerOpenChannel : KeepsSubscriptions s (ownerOpenChannel h l s).1 := by
  unfold ownerOpenChannel
  dsimp only
  split
  · exact .refl s
  split
  · exact .refl s
  split
  · split
    · exact .refl s
    · split
      · exact .refl s
      · exact .modChannel s fun _ => rfl
  · exact .refl s

/-- A host that joins is one JOINED host more (R149). -/
theorem keepsSubscriptions_admitMember (r : Request) : KeepsSubscriptions s (admitMember h r s) := by
  refine ⟨fun g hj => ?_, fun c hc => by simpa [admitMember] using hc, fun i => by simpa [admitMember] using .refl _⟩
  by_cases hg : g = h
  · simp [State.isJoined, admitMember, hg]
  · simpa [State.isJoined, admitMember, Table.read_update, hg] using hj

theorem keepsSubscriptions_castVote : KeepsSubscriptions s (castVote h s) := by
  unfold castVote
  split
  · exact .of_eq rfl rfl rfl
  · exact .of_eq (by simp) (by simp) (by simp)

theorem keepsSubscriptions_renewLease : KeepsSubscriptions s (renewLease h s) := by
  unfold renewLease
  split
  · exact .modMember s h fun _ => rfl
  · exact .refl s

theorem keepsSubscriptions_answerTake (r : Request) : KeepsSubscriptions s (answerTake h r s) := by
  rw [answerTake_withLinks]
  exact .of_eq rfl rfl rfl

theorem keepsSubscriptions_commitTake (c : Commit) : KeepsSubscriptions s (commitTake h c s) := by
  unfold commitTake
  split
  · next e count last _ =>
    have hmoved : KeepsSubscriptions s (s.modEntry e (fun x => { x with offset := x.offset + count })) :=
      .of_eq rfl rfl rfl
    dsimp only
    split
    · exact (hmoved.trans (keepsSubscriptions_removeEntry h e _)).trans (.of_eq (by simp) (by simp) (by simp))
    · exact hmoved
  · exact keepsSubscriptions_removeEntry h _ s
  · exact .refl s

theorem keepsSubscriptions_commitFetchNotice (c : Commit) : KeepsSubscriptions s (commitFetchNotice h c s) := by
  unfold commitFetchNotice
  split
  · exact .of_eq rfl rfl rfl
  · exact .refl s

theorem keepsSubscriptions_commitReadCounter (c : Commit) : KeepsSubscriptions s (commitReadCounter h c s) := by
  unfold commitReadCounter
  split
  · exact .of_eq rfl rfl rfl
  · exact .refl s

theorem keepsSubscriptions_voidRead (p : Option PendingResult) : KeepsSubscriptions s (voidRead p s) := by
  unfold voidRead
  split
  · exact .of_eq rfl rfl rfl
  · exact .refl s

end

/-! ## The requests that make subscriptions, and those that end them -/

/-- Everything SUBSCRIBE can leave in any state: the state itself, or a record in range for a JOINED host on an OPEN
slot. -/
theorem ownerSubscribe_leaves (h : HostId) (l : Link) (s : State) :
    (ownerSubscribe h l s).1 = s
      ∨ ∃ c i p, s.isJoined h = true ∧ (s.channels.read c).state = .opened ∧ p ≠ .none
        ∧ subscribeInRange l.request = true
        ∧ (ownerSubscribe h l s).1 = (s.modSub i (fun _ => newSubscription h l.request c p)).modChannel c
          (fun x => { x with subscriberCount := x.subscriberCount + 1 }) := by
  unfold ownerSubscribe
  dsimp only
  cases hj : s.isJoined h with
  | false => exact .inl (by simp [refuse])
  | true =>
  by_cases hk : l.request.key = 0#16
  · exact .inl (by simp [hk, refuse])
  cases hf : s.findKey l.request.key with
  | none => exact .inl (by simp [hk, refuse])
  | some c =>
  cases hs : (s.channels.read c).state with
  | closed => exact absurd hs (state_of_findKey hf)
  | draining => exact .inl (by simp [hk, hs, refuse])
  | opened =>
  cases hp : Policy.ofBits l.request.d with
  | none => exact .inl (by simp [hk, hs, refuse])
  | some p =>
  cases hr : subscribeInRange l.request with
  | false => exact .inl (by simp [hk, hs, refuse])
  | true =>
  cases hlow : s.subs.lowest (fun x => x.state == .free) with
  | none => exact .inl (by simp [hk, hs, refuse])
  | some i =>
    have hpolicy : p ≠ .none := by
      rw [Policy.eq_of_ofBits hp]
      split <;> simp
    exact .inr ⟨c, i, p, rfl, hs, hpolicy, rfl, by simp [hk, hs]⟩

section
variable {s t : State} (hl : subscriptionTableLaw s)
include hl

/-- A record in range, for a JOINED host on an OPEN slot (R42, R46). -/
theorem subscriptionTableLaw_ownerSubscribe (h : HostId) (l : Link) :
    subscriptionTableLaw (ownerSubscribe h l s).1 := by
  obtain ho | ⟨c, i, p, hj, hc, hp, hr, ho⟩ := ownerSubscribe_leaves h l s <;> rw [ho]
  · exact hl
  simp only [subscribeInRange, Bool.and_eq_true, decide_eq_true_eq] at hr
  obtain ⟨⟨hmin, hmax⟩, -⟩ := hr
  have hmade : subscriptionTableLaw (s.modSub i (fun _ => newSubscription h l.request c p)) := by
    obtain ⟨horderly, hplace⟩ := (subscriptionTableLaw_iff s).1 hl
    refine (subscriptionTableLaw_iff _).2 ⟨fun j => ?_, fun j hu => ?_⟩
    · rw [State.modSub_subs, Table.read_update]
      split
      · exact ⟨nofun, fun _ => ⟨hp, hmin, hmax, Nat.zero_le _⟩⟩
      · exact horderly j
    · rw [State.modSub_subs, Table.read_update] at hu ⊢
      split
      · exact ⟨hj, hc⟩
      · next hne => exact hplace j (by simpa [hne] using hu)
  exact (KeepsSubscriptions.modChannel _ id).law hmade

theorem subscriptionTableLaw_ownerVoteClear (h : HostId) (l : Link) :
    subscriptionTableLaw (ownerVoteClear h l s).1 := by
  unfold ownerVoteClear
  split
  · rw [accept_fst]
    exact subscriptionTableLaw_judgeVote ((keepsSubscriptions_castVote h s).law hl)
  · exact hl

theorem subscriptionTableLaw_ownerJoin (h : HostId) (l : Link) : subscriptionTableLaw (ownerJoin h l s).1 := by
  unfold ownerJoin
  dsimp only
  split
  · exact hl
  split
  · exact hl
  · have hadmitted := (keepsSubscriptions_admitMember h s l.request).law hl
    have htold : subscriptionTableLaw (postOthers h (.hostJoined h) (admitMember h l.request s)) :=
      subscriptionTableLaw_of_eq hadmitted (by simp) (by simp) (by simp)
    rw [accept_fst, tellVote]
    split
    · exact subscriptionTableLaw_judgeVote ((keepsSubscriptions_post _ _ _).law htold)
    · exact htold

theorem subscriptionTableLaw_ownerLeave (h : HostId) (l : Link) : subscriptionTableLaw (ownerLeave h l s).1 := by
  unfold ownerLeave
  split
  · rw [accept_fst]
    exact subscriptionTableLaw_teardown hl h _ _
  · exact hl

theorem subscriptionTableLaw_ownerCloseChannel (h : HostId) (l : Link) :
    subscriptionTableLaw (ownerCloseChannel h l s).1 := by
  unfold ownerCloseChannel
  dsimp only
  split
  · exact hl
  split
  · exact hl
  split
  · exact hl
  split
  · exact hl
  split
  · exact hl
  · exact subscriptionTableLaw_closeChannel hl _

/-! ## The step -/

theorem subscriptionTableLaw_leaseExpiry {h : HostId} (ht : execLeaseExpiry h s = .next t) :
    subscriptionTableLaw t := by
  obtain ⟨-, ho⟩ | ⟨-, ho⟩ := execLeaseExpiry_cases h s <;> rw [next_eq_of_eq ho ht]
  · exact subscriptionTableLaw_teardown hl h _ _
  · exact hl

theorem subscriptionTableLaw_turnExpiry (ht : execTurnExpiry s = .next t) : subscriptionTableLaw t := by
  obtain ⟨-, ho⟩ | ⟨-, g, d, -, ho⟩ | ⟨-, g, d, -, ho⟩ := execTurnExpiry_cases s <;> rw [next_eq_of_eq ho ht]
  · exact hl
  · exact subscriptionTableLaw_of_eq hl (by simp) (by simp) (by simp)
  · exact subscriptionTableLaw_of_eq hl (by simp) (by simp) (by simp)

theorem subscriptionTableLaw_voteDeadline (ht : execVoteDeadline s = .next t) : subscriptionTableLaw t := by
  obtain ⟨-, ho⟩ | ⟨-, ho⟩ := execVoteDeadline_cases s <;> rw [next_eq_of_eq ho ht]
  · exact subscriptionTableLaw_of_eq hl (by simp) (by simp) (by simp)
  · exact hl

theorem subscriptionTableLaw_resetRelease (ht : execResetRelease s = .next t) : subscriptionTableLaw t := by
  unfold execResetRelease at ht
  split at ht <;> cases ht
  exact hl

theorem subscriptionTableLaw_timeStep (ht : execMillisecondTimeStep s = .next t) : subscriptionTableLaw t := by
  obtain ⟨-, ho⟩ | ⟨-, -, ho⟩ | ⟨-, -, ho⟩ := execMillisecondTimeStep_cases s
  · rw [next_eq_of_eq ho ht]
    exact hl
  · cases ho.symm.trans ht
  · rw [next_eq_of_eq ho ht]
    exact hl

theorem subscriptionTableLaw_transactionVoid {h : HostId} (ht : execTransactionVoid h s = .next t) :
    subscriptionTableLaw t := by
  unfold execTransactionVoid at ht
  dsimp only at ht
  split at ht
  · cases ht
    have hvoided := (keepsSubscriptions_voidRead (closeTransaction h s) (s.links.read h).pendingResult).law
      (subscriptionTableLaw_of_eq hl (by simp) (by simp) (by simp))
    exact subscriptionTableLaw_of_eq hvoided (by simp) (by simp) (by simp)
  · exact subscriptionTableLaw_linkBlind.deselectAfterEvent hl ht

omit hl in
theorem subscriptionTableLaw_deviceReset (ht : execDeviceReset s = .next t) : subscriptionTableLaw t := by
  refine subscriptionTableLaw_of_all_free ?_
  cases ht
  rfl

/-- A request whose owner lets no host depart and no channel close. -/
theorem subscriptionTableLaw_endRequest {h : HostId} {which : Request → Bool} {owner : Link → State → State × Reply}
    (ht : endRequest h which owner s = .next t) (ho : ∀ l u, KeepsSubscriptions u (owner l u).1) :
    subscriptionTableLaw t :=
  subscriptionTableLaw_linkBlind.endRequest hl ht fun l u => (ho l u).law

/-- A SET of a host's own parameter. -/
theorem subscriptionTableLaw_setOwn {h : HostId} {which : Request → Bool} {inRange : Nat → Bool}
    {store : Word16 → State → State} (ht : endRequest h which (ownerSetOwn h inRange store) s = .next t)
    (hstore : ∀ b u, KeepsSubscriptions u (store b u)) : subscriptionTableLaw t :=
  subscriptionTableLaw_linkBlind.endRequest hl ht fun l _ hu =>
    ownerSetOwn_keeps (fun b u => (hstore b u).law) hu h inRange l

/-- A SET of an exchange-wide parameter. -/
theorem subscriptionTableLaw_setShared {h : HostId} {which : Request → Bool} {inRange : Nat → Bool}
    {store : Word16 → State → State} (ht : endRequest h which (ownerSetShared h inRange store) s = .next t)
    (hstore : ∀ b u, KeepsSubscriptions u (store b u)) : subscriptionTableLaw t :=
  subscriptionTableLaw_linkBlind.endRequest hl ht fun l _ hu =>
    ownerSetShared_keeps (fun b u => (hstore b u).law) hu h inRange l

/-- A good header renews a lease and is answered (R134). -/
theorem subscriptionTableLaw_headerEnd {h : HostId} {b : Byte} {which : Request → Bool}
    {answer : Request → State → State}
    (ht : headerEnd h b true which (fun r u => answer r (renewLease h u)) s = .next t)
    (ha : ∀ r u, subscriptionTableLaw u → subscriptionTableLaw (answer r u)) : subscriptionTableLaw t :=
  subscriptionTableLaw_linkBlind.headerEnd hl ht fun r u hu => ha r _ ((keepsSubscriptions_renewLease h u).law hu)

/-- A good header whose answer changes the link alone. -/
theorem subscriptionTableLaw_headerEnd_of_withLinks {h : HostId} {b : Byte} {which : Request → Bool}
    {answer : Request → State → State}
    (ht : headerEnd h b true which (fun r u => answer r (renewLease h u)) s = .next t)
    (ha : ∀ r u, answer r u = u.withLinks (answer r u).links) : subscriptionTableLaw t :=
  subscriptionTableLaw_headerEnd hl ht fun r u hu => subscriptionTableLaw_linkBlind.of_withLinks hu (ha r u)

end

/-- Every command keeps the Subscription Table in order. -/
theorem subscriptionTableLaw_exec {c : Instr} {s t : State} (hl : subscriptionTableLaw s) (ht : exec c s = .next t) :
    subscriptionTableLaw t := by
  have hblind := subscriptionTableLaw_linkBlind
  cases c with
  | deviceReset => exact subscriptionTableLaw_deviceReset ht
  | selAsserted h => exact hblind.of_withLinks hl (execSelAsserted_withLinks ht)
  | headerGoodCheck h b =>
    rw [exec, execHeaderGoodCheck] at ht
    exact subscriptionTableLaw_headerEnd hl ht fun r u => hblind.answerKind (keepsSubscriptions_answerTake h u r).law
  | headerBadCheck h b =>
    rw [exec, execHeaderBadCheck] at ht
    exact hblind.headerEnd hl ht fun r u hu => subscriptionTableLaw_of_eq hu (by simp) (by simp) (by simp)
  | deselectInDiscard h => exact hblind.deselectAfterEvent hl ht
  | transactionVoid h => exact subscriptionTableLaw_transactionVoid hl ht
  | unknownRequest h =>
    rw [exec, execUnknownRequest] at ht
    exact subscriptionTableLaw_endRequest hl ht fun _ u => .refl u
  | join h =>
    rw [exec, execJoin] at ht
    exact hblind.endRequest hl ht fun l _ hu => subscriptionTableLaw_ownerJoin hu h l
  | leave h =>
    rw [exec, execLeave] at ht
    exact hblind.endRequest hl ht fun l _ hu => subscriptionTableLaw_ownerLeave hu h l
  | setLeasePeriod h =>
    rw [exec, execSetLeasePeriod] at ht
    exact subscriptionTableLaw_setOwn hl ht fun _ u => .modMember u h fun _ => rfl
  | setAttentionMask h =>
    rw [exec, execSetAttentionMask] at ht
    exact subscriptionTableLaw_setOwn hl ht fun _ u => .modMember u h fun _ => rfl
  | setCreditThreshold h =>
    rw [exec, execSetCreditThreshold] at ht
    exact subscriptionTableLaw_setOwn hl ht fun b u => keepsSubscriptions_storeThreshold h u b
  | setReserveThreshold h =>
    rw [exec, execSetReserveThreshold] at ht
    exact subscriptionTableLaw_setShared hl ht fun _ _ => .of_eq (by simp) (by simp) (by simp)
  | setTurnWindow h =>
    rw [exec, execSetTurnWindow] at ht
    exact subscriptionTableLaw_setShared hl ht fun _ _ => .of_eq rfl rfl rfl
  | setVoteWindow h =>
    rw [exec, execSetVoteWindow] at ht
    exact subscriptionTableLaw_setShared hl ht fun _ _ => .of_eq rfl rfl rfl
  | setPrecedence h =>
    rw [exec, execSetPrecedence] at ht
    exact subscriptionTableLaw_setShared hl ht fun _ _ => .of_eq rfl rfl rfl
  | setQuotaCeiling h =>
    rw [exec, execSetQuotaCeiling] at ht
    exact subscriptionTableLaw_setShared hl ht fun _ _ => .of_eq rfl rfl rfl
  | get h b =>
    rw [exec, execGet] at ht
    exact subscriptionTableLaw_headerEnd_of_withLinks hl ht (answerGet_withLinks h)
  | voteClear h =>
    rw [exec, execVoteClear] at ht
    exact hblind.endRequest hl ht fun l _ hu => subscriptionTableLaw_ownerVoteClear hu h l
  | ack h =>
    rw [exec, execAck] at ht
    exact subscriptionTableLaw_endRequest hl ht (keepsSubscriptions_ownerAck h)
  | fetchNotice h b =>
    rw [exec, execFetchNotice] at ht
    exact subscriptionTableLaw_headerEnd_of_withLinks hl ht (answerFetchNotice_withLinks h)
  | fetchNoticeCommit h =>
    rw [exec, execFetchNoticeCommit] at ht
    exact hblind.endRead hl ht fun c u => (keepsSubscriptions_commitFetchNotice h u c).law
  | readCounter h b =>
    rw [exec, execReadCounter] at ht
    exact subscriptionTableLaw_headerEnd_of_withLinks hl ht (answerReadCounter_withLinks h)
  | readCounterCommit h =>
    rw [exec, execReadCounterCommit] at ht
    exact hblind.endRead hl ht fun c u => (keepsSubscriptions_commitReadCounter h u c).law
  | openChannel h =>
    rw [exec, execOpenChannel] at ht
    exact subscriptionTableLaw_endRequest hl ht (keepsSubscriptions_ownerOpenChannel h)
  | closeChannel h =>
    rw [exec, execCloseChannel] at ht
    exact hblind.endRequest hl ht fun l _ hu => subscriptionTableLaw_ownerCloseChannel hu h l
  | findChannel h b =>
    rw [exec, execFindChannel] at ht
    exact subscriptionTableLaw_headerEnd_of_withLinks hl ht (answerFindChannel_withLinks h)
  | subscribe h =>
    rw [exec, execSubscribe] at ht
    exact hblind.endRequest hl ht fun l _ hu => subscriptionTableLaw_ownerSubscribe hu h l
  | unsubscribe h =>
    rw [exec, execUnsubscribe] at ht
    exact subscriptionTableLaw_endRequest hl ht (keepsSubscriptions_ownerUnsubscribe h)
  | suspend h =>
    rw [exec, execSuspend] at ht
    exact subscriptionTableLaw_endRequest hl ht fun l u => keepsSubscriptions_ownerRest h l u nofun
  | resume h =>
    rw [exec, execResume] at ht
    exact subscriptionTableLaw_endRequest hl ht fun l u => keepsSubscriptions_ownerRest h l u nofun
  | begin h =>
    rw [exec, execBegin] at ht
    exact subscriptionTableLaw_endRequest hl ht (keepsSubscriptions_ownerBegin h)
  | put h =>
    rw [exec, execPut] at ht
    exact subscriptionTableLaw_endRequest hl ht (keepsSubscriptions_ownerPut h)
  | sealMsg h =>
    rw [exec, execSeal] at ht
    exact subscriptionTableLaw_endRequest hl ht (keepsSubscriptions_ownerSeal h)
  | abort h =>
    rw [exec, execAbort] at ht
    exact subscriptionTableLaw_endRequest hl ht (keepsSubscriptions_ownerAbort h)
  | take h b =>
    rw [exec, execTake] at ht
    exact subscriptionTableLaw_headerEnd hl ht fun r u => (keepsSubscriptions_answerTake h u r).law
  | takeCommit h =>
    rw [exec, execTakeCommit] at ht
    exact hblind.endRead hl ht fun c u => (keepsSubscriptions_commitTake h u c).law
  | skip h =>
    rw [exec, execSkip] at ht
    exact subscriptionTableLaw_endRequest hl ht (keepsSubscriptions_ownerSkip h)
  | leaseExpiry h => exact subscriptionTableLaw_leaseExpiry hl ht
  | turnExpiry => exact subscriptionTableLaw_turnExpiry hl ht
  | voteDeadline => exact subscriptionTableLaw_voteDeadline hl ht
  | headerByteArrival h b => exact hblind.of_withLinks hl (execHeaderByteArrival_withLinks ht)
  | payloadByteArrival h b => exact hblind.of_withLinks hl (execPayloadByteArrival_withLinks ht)
  | responseByteArrival h => exact hblind.of_withLinks hl (execResponseByteArrival_withLinks ht)
  | selectSeen h => exact hblind.of_withLinks hl (execSelectSeen_withLinks ht)
  | resetRelease => exact subscriptionTableLaw_resetRelease hl ht
  | millisecondTimeStep => exact subscriptionTableLaw_timeStep hl ht
  | getCommit h =>
    rw [exec, execGetCommit] at ht
    exact hblind.endRead hl ht fun _ _ hu => hu
  | findChannelCommit h =>
    rw [exec, execFindChannelCommit] at ht
    exact hblind.endRead hl ht fun _ _ hu => hu
  | setReadOnlyValue h =>
    rw [exec, execSetReadOnlyValue] at ht
    exact subscriptionTableLaw_endRequest hl ht fun _ u => .refl u

/-- Settles O55: a step is the command at the front, or nothing. -/
theorem stepKeepsSubscriptionTable : Obligations.StepKeepsSubscriptionTable := by
  intro s t hl ht
  unfold step at ht
  split at ht
  · cases ht
    exact hl
  · next c rest _ => exact subscriptionTableLaw_exec (s := { s with pending := rest }) hl ht

end Sys2Proof.Machine
end

section
/-! SUPPORT. BEGIN, SEAL and ABORT: the deliveries of a message and the links, the requests by their owners' tables, and
the turn that passes on. -/

namespace Sys2Proof.Machine

/-! ## Deliveries and the links -/

theorem appendEntry_ignoresLinks (h : HostId) (m : MsgId) (i : SubId) (e : EntryId) :
    IgnoresLinks (appendEntry h m i e) := fun _ _ => rfl

theorem reportDrop_ignoresLinks (h : HostId) (n : Notice) : IgnoresLinks (reportDrop h n) := fun s L => by
  rw [reportDrop_eq, reportDrop_eq]
  rfl

theorem displace_ignoresLinks (h : HostId) (m : MsgId) (i : SubId) (e : EntryId) :
    IgnoresLinks (displace h m i e) := fun s L => by
  simp only [displace, removeEntry_ignoresLinks h e s L, reportDrop_ignoresLinks h _ _ L,
    appendEntry_ignoresLinks h m i e _ L, withLinks_frame]

/-- Whether an entry is appended, a drop reported or an entry displaced does not depend on the links. -/
theorem deliver_ignoresLinks (m : MsgId) (h : HostId) (i : SubId) : IgnoresLinks (deliver m h i) := fun s L => by
  have hfresh : (s.withLinks L).freshEntry = s.freshEntry := rfl
  have holdest : (s.withLinks L).queuedOf h i = s.queuedOf h i := rfl
  have hsubs : (s.withLinks L).subs = s.subs := rfl
  simp only [deliver, hfresh, holdest, hsubs, reportDrop_ignoresLinks _ _ s L, displace_ignoresLinks _ _ _ _ s L,
    appendEntry_ignoresLinks _ _ _ _ s L, withLinks_frame]
  repeat' split
  all_goals rfl

theorem createDeliveries_ignoresLinks (m : MsgId) : IgnoresLinks (createDeliveries m) := fun s L =>
  IgnoresLinks.foldl (fun t : HostId × SubId => deliver_ignoresLinks m t.1 t.2) (s.targets m) s L

/-! ## A request and the links -/

theorem ended_eq_withLinks (s : State) (h : HostId) (c : ResultCode) (v : Word16) :
    s.ended h c v = s.withLinks (s.ended h c v).links := rfl

/-- A request whose owner's effect does not look at the links leaves that effect on the ended transaction. -/
theorem endRequest_of_ignoresLinks {s : State} {h : HostId} {r : Request} {which : Request → Bool} {reply : Reply}
    {owner : Link → State → State × Reply} {effect : State → State} (hc : s.carriesRequest h r)
    (hw : which r = true) (he : IgnoresLinks effect)
    (ho : owner (s.links.read h) (closeTransaction h s) = (effect (closeTransaction h s), reply)) :
    endRequest h which owner s = .next (effect (s.ended h reply.result reply.value)) := by
  have hlinks : (effect (closeTransaction h s)).links = (closeTransaction h s).links := by
    rw [closeTransaction_withLinks, he]
    rfl
  rw [endRequest_of_carries hc hw, ho, setLast_eq reply hlinks, closeTransaction_withLinks, he, ended_eq_withLinks, he]
  rfl

/-! ## BEGIN (R62 to R65) -/

/-- In an orderly Channel Table a test of the slots that hold a key is a test of the one slot found. -/
theorem any_holdsKey_eq {s : State} {k : Word16} {i : ChanId} (hl : channelTableLaw s) (hf : s.findKey k = some i)
    (p : ChanId → Bool) : (List.finRange 32).any (fun c => s.holdsKey k c && p c) = p i := by
  rw [Bool.eq_iff_iff]
  simp only [List.any_eq_true, Bool.and_eq_true]
  constructor
  · rintro ⟨j, -, hj, hp⟩
    obtain rfl : i = j := Option.some.inj (hf.symm.trans (findKey_of_holdsKey hl hj))
    exact hp
  · exact fun hp => ⟨i, List.mem_finRange i, holdsKey_of_findKey hf, hp⟩

/-- Condition 8 of R62 is the test of the declared length. -/
theorem declaresAbove_eq (r : Request) (limit : Nat) :
    r.declaresAbove limit = (r.d.getLsbD 0 && decide (limit < r.b.toNat)) := by
  unfold Request.declaresAbove Request.declared
  cases r.d.getLsbD 0 <;> rfl

/-- Condition 6 of R62 is the test of the publish set. -/
theorem not_permits_eq (c : Channel) (h : HostId) :
    (!c.permits h) = (c.publishSet != noHosts && !c.publishSet.read h) := by
  simp [Channel.permits, bne]

/-- BEGIN by its table: a refusal, or the arbiter's answer for the slot of the key and the lowest VACANT record. -/
theorem ownerBegin_by_table (h : HostId) (l : Link) {s : State} (hl : channelTableLaw s) :
    (∃ c, firstRefusal (beginRefusals s h l.request) = some c ∧ ownerBegin h l s = refuse c s)
      ∨ (firstRefusal (beginRefusals s h l.request) = none ∧ ∃ i m, s.findKey l.request.key = some i
        ∧ s.messages.lowest (fun x => x.state == .vacant) = some m
        ∧ ownerBegin h l s =
          if (arbitrate h s).2 then
            accept (startMessage h l.request i m (arbitrate h s).1) (s.channels.read i).nextSequence
          else refuse .wait (arbitrate h s).1) := by
  simp only [beginRefusals, firstRefusal, ownerBegin, isFilling_eq, Bool.and_assoc]
  cases s.isJoined h with
  | false => exact .inl ⟨.notJoined, by simp⟩
  | true =>
  by_cases hk : l.request.key = 0#16
  · exact .inl ⟨.badKey, by simp [hk]⟩
  by_cases hd : 2 ≤ l.request.d.toNat
  · exact .inl ⟨.badRequest, by simp [hk, hd]⟩
  cases hf : s.findKey l.request.key with
  | none => exact .inl ⟨.noChannel, by simp [hk, hd, keyIs_of_none hf]⟩
  | some i =>
  simp only [keyIs_eq hl hf, any_holdsKey_eq hl hf, ← declaresAbove_eq, ← not_permits_eq]
  cases hs : (s.channels.read i).state with
  | closed => exact absurd hs (state_of_findKey hf)
  | draining => exact .inl ⟨.busy, by simp [hk, hd]⟩
  | opened =>
  cases (s.channels.read i).permits h with
  | false => exact .inl ⟨.notPermitted, by simp [hk, hd]⟩
  | true =>
  cases (s.fillingOf h).isSome with
  | true => exact .inl ⟨.busy, by simp [hk, hd]⟩
  | false =>
  cases l.request.declaresAbove (s.channels.read i).maxLength with
  | true => exact .inl ⟨.length, by simp [hk, hd]⟩
  | false =>
  cases hlow : s.messages.lowest (fun x => x.state == .vacant) with
  | none =>
    have hfull := (Table.lowest_eq_none_iff _ _).1 hlow
    exact .inl ⟨.noRecord, by simp [hk, hd]; simpa using hfull⟩
  | some m =>
    have hvacant := Table.lowest_some hlow
    refine .inr ⟨by simp [hk, hd]; exact ⟨m, by simpa using hvacant⟩, i, m, rfl, rfl, ?_⟩
    obtain ⟨t, admitted⟩ := arbitrate h s
    cases admitted <;> simp [hk, hd]

theorem lowest_vacant {s : State} {m : MsgId} (hm : (s.messages.read m).state = .vacant)
    (hlow : ∀ k, k < m → (s.messages.read k).state ≠ .vacant) :
    s.messages.lowest (fun x => x.state == .vacant) = some m := by
  rw [Table.lowest_eq_some_iff]
  exact ⟨by simpa using hm, fun k hk => by simpa using hlow k hk⟩

theorem beginRefusals_closeTransaction (h : HostId) (r : Request) (s : State) :
    beginRefusals (closeTransaction h s) h r = beginRefusals s h r := rfl

/-- The start of a message looks at no link. -/
theorem startMessage_ignoresLinks (h : HostId) (r : Request) (i : ChanId) (m : MsgId) :
    IgnoresLinks (startMessage h r i m) := fun s L => by
  have hmade : ∀ c, IgnoresLinks (fun u => (u.modMessage m (fun _ => newMessage h r i c)).modChannel i
      (fun x => { x with nextSequence := x.nextSequence + 1, liveCount := x.liveCount + 1 })) := fun _ _ _ => rfl
  have hchannels : (s.withLinks L).channels = s.channels := rfl
  simp only [startMessage, hchannels, hmade _ s L, createDeliveries_ignoresLinks m _ L]
  split <;> rfl

/-! ### The arbiter's answer to each turn (R114, R115) -/

section
variable {s : State} {h : HostId}

theorem arbitrate_of_unrationed (hr : s.rationed = false) : arbitrate h s = (s, true) := by
  simp [arbitrate, hr]

theorem arbitrate_of_no_turn (hr : s.rationed = true) (ht : s.turn = .none) : arbitrate h s =
    ({ s with turn := .inUse h (s.now + s.params.turnWindow), lastServed := some h }, true) := by
  simp [arbitrate, hr, ht]

theorem arbitrate_of_granted {d : Nat} (hr : s.rationed = true) (ht : s.turn = .granted h d) :
    arbitrate h s = ({ s with turn := .inUse h d, lastServed := some h }, true) := by
  simp [arbitrate, hr, ht]

theorem arbitrate_of_held (hr : s.rationed = true)
    (ht : ∃ g d, s.turn = .inUse g d ∨ (s.turn = .granted g d ∧ g ≠ h)) :
    arbitrate h s = ({ s with claimants := HostSet.insert s.claimants h }, false) := by
  obtain ⟨g, d, ht | ⟨ht, hg⟩⟩ := ht
  · simp [arbitrate, hr, ht]
  · simp [arbitrate, hr, ht, hg]

end

/-! ### The request -/

/-- Settles O41, by the cases of its owner, and past the table by the arbiter's answer to each turn: the turn taken and
the message started look at no link, so they are those of the state in which the transaction has ended. -/
theorem beginStartsMessage : Obligations.BeginStartsMessage := by
  rintro s h r hl ⟨hc, hk⟩
  have ⟨_, _, _, hreq⟩ := hc
  have hw : isKind .begin r = true := by simp [isKind, hk]
  have hcases := ownerBegin_by_table h (s.links.read h) (channelTableLaw_closeTransaction (h := h) hl)
  simp only [beginRefusals_closeTransaction, findKey_closeTransaction, hreq, closeTransaction_frame] at hcases
  refine ⟨fun c hf => ?_, fun i m hf hkey hm hlow => ?_⟩
  · obtain ⟨c', hf', ho⟩ | ⟨hf', -⟩ := hcases
    · obtain rfl : c = c' := Option.some.inj (hf.symm.trans hf')
      exact endRequest_refused hc hw ho
    · cases hf.symm.trans hf'
  obtain ⟨c', hf', -⟩ | ⟨-, i', m', hkey', hm', ho⟩ := hcases
  · cases hf.symm.trans hf'
  obtain rfl : i = i' := Option.some.inj ((findKey_of_holdsKey hl hkey).symm.trans hkey')
  obtain rfl : m = m' := Option.some.inj ((lowest_vacant hm hlow).symm.trans hm')
  have hadmitted : ∀ grant : State → State, IgnoresLinks grant →
      arbitrate h (closeTransaction h s) = (grant (closeTransaction h s), true) →
      exec (.begin h) s =
        .next (startMessage h r i m (grant (s.ended h .ok (s.channels.read i).nextSequence))) := by
    intro grant hg ha
    rw [ha] at ho
    exact endRequest_of_ignoresLinks hc hw ((startMessage_ignoresLinks h r i m).comp hg) ho
  refine ⟨fun hr => ?_, fun hr ht => ?_, fun d hr ht => ?_, fun hr ht => ?_⟩
  · exact hadmitted (fun u => u) (fun _ _ => rfl) (arbitrate_of_unrationed hr)
  · exact hadmitted (fun u => { u with turn := .inUse h (u.now + u.params.turnWindow), lastServed := some h })
      (fun _ _ => rfl) (arbitrate_of_no_turn hr ht)
  · exact hadmitted (fun u => { u with turn := .inUse h d, lastServed := some h }) (fun _ _ => rfl)
      (arbitrate_of_granted hr ht)
  · rw [arbitrate_of_held (s := closeTransaction h s) hr ht] at ho
    exact endRequest_of_ignoresLinks (effect := fun u => { u with claimants := HostSet.insert u.claimants h }) hc hw
      (fun _ _ => rfl) ho

/-! ## The table of SEAL and ABORT (R73, R79) -/

theorem endRefusals_closeTransaction (h : HostId) (s : State) :
    endRefusals (closeTransaction h s) h = endRefusals s h := rfl

section
variable {s : State} {h : HostId}

/-- What turns a SEAL or an ABORT away: a host that is not JOINED, or one without a FILLING message. -/
theorem endRefusals_some {c : ResultCode} (hf : firstRefusal (endRefusals s h) = some c) :
    (s.isJoined h = false ∧ c = .notJoined) ∨ (s.isJoined h = true ∧ s.fillingOf h = none ∧ c = .noMessage) := by
  simp only [endRefusals, firstRefusal, isFilling_eq] at hf
  cases hj : s.isJoined h with
  | false => exact .inl ⟨rfl, by simpa [hj] using hf.symm⟩
  | true =>
  cases hn : s.fillingOf h with
  | none => exact .inr ⟨rfl, rfl, by simpa [hj, hn] using hf.symm⟩
  | some m => simp [hj, hn] at hf

theorem isJoined_of_endRefusals_none (hf : firstRefusal (endRefusals s h) = none) : s.isJoined h = true := by
  simpa using (firstRefusal_eq_none_iff _).1 hf (!s.isJoined h, .notJoined) List.mem_cons_self

end

/-! ## ABORT (R79) -/

section
variable {s : State} {h : HostId}

theorem ownerAbort_refused {c : ResultCode} (l : Link) (hf : firstRefusal (endRefusals s h) = some c) :
    ownerAbort h l s = refuse c s := by
  obtain ⟨hj, rfl⟩ | ⟨hj, hn, rfl⟩ := endRefusals_some hf
  · simp [ownerAbort, hj]
  · simp [ownerAbort, hj, hn]

theorem ownerAbort_accepted {m : MsgId} (l : Link) (hf : firstRefusal (endRefusals s h) = none)
    (hm : s.fillingOf h = some m) :
    ownerAbort h l s = accept (abortMessage m s) (s.messages.read m).sequence := by
  simp [ownerAbort, isJoined_of_endRefusals_none hf, hm]

end

theorem turnPassed_ne_inUse (s : State) (h : HostId) (d : Nat) : s.turnPassed.turn ≠ .inUse h d := by
  unfold State.turnPassed
  split <;> simp

/-- A turn that a host held IN_USE is over once it has ended (R77). -/
theorem turnEnded_ne_inUse (s : State) (h : HostId) (d : Nat) : (s.turnEnded h).turn ≠ .inUse h d := by
  unfold State.turnEnded
  split
  · next g e ht =>
    split
    · exact turnPassed_ne_inUse s h d
    · next hg =>
      rw [ht]
      exact fun heq => hg (Turn.inUse.inj heq).1
  · next hno => exact hno h d

/-- An abort leaves its publisher no turn IN_USE (R80). -/
theorem abortMessage_ne_inUse (m : MsgId) (s : State) (d : Nat) :
    (abortMessage m s).turn ≠ .inUse (s.messages.read m).publisher d := by
  rw [abortMessage_eq, endTurnOf_eq_turnEnded]
  exact turnEnded_ne_inUse _ _ d

/-- Settles O45: the abort looks at no link, so it is the abort of the state in which the transaction has ended. -/
theorem abortEndsMessage : Obligations.AbortEndsMessage := by
  rintro s h r ⟨hc, hk⟩
  have hw : isKind .abort r = true := by simp [isKind, hk]
  have htable := endRefusals_closeTransaction h s
  refine ⟨fun c hf => endRequest_refused hc hw (ownerAbort_refused _ (htable ▸ hf)), fun m hf hm => ?_⟩
  have ho := ownerAbort_accepted (s.links.read h) (htable ▸ hf) (s := closeTransaction h s) hm
  obtain ⟨-, hpublisher⟩ := fillingOf_some hm
  refine ⟨_, endRequest_of_ignoresLinks hc hw (abortMessage_ignoresLinks m) ho, aborted_abortMessage m _, fun d => ?_⟩
  rw [← hpublisher]
  exact abortMessage_ne_inUse m _ d

/-! ## SEAL (R73 to R75) -/

theorem sealMessage_ignoresLinks (m : MsgId) : IgnoresLinks (sealMessage m) := fun s L => by
  have hmark : IgnoresLinks (fun u => u.modMessage m (fun x => { x with state := .sealed })) := fun _ _ => rfl
  simp only [sealMessage, hmark s L, createDeliveries_ignoresLinks m _ L, withLinks_frame]
  split <;> rfl

theorem countSeal_ignoresLinks (h : HostId) (length : Nat) : IgnoresLinks (countSeal h length) := fun _ _ => rfl

/-- PUBLISHED and BYTES advance for the host, and nothing else changes (R78). -/
theorem countSeal_eq (h : HostId) (length : Nat) (s : State) :
    countSeal h length s = s.setDesk h { s.desks.read h with
      counters := { (s.desks.read h).counters with
        published := counted (s.desks.read h).counters.published
        bytes := (s.desks.read h).counters.bytes + BitVec.ofNat 40 length } } := by
  simp [countSeal, State.modCounters, State.modDesk, State.setDesk, Table.update, satIncrement_eq_counted]

section
variable {s : State} {h : HostId} {m : MsgId}

theorem ownerSeal_refused {c : ResultCode} (l : Link) (hf : firstRefusal (endRefusals s h) = some c) :
    ownerSeal h l s = refuse c s := by
  obtain ⟨hj, rfl⟩ | ⟨hj, hn, rfl⟩ := endRefusals_some hf
  · simp [ownerSeal, hj]
  · simp [ownerSeal, hj, hn]

/-- Check 3 of R73. -/
theorem ownerSeal_length {d : Nat} (l : Link) (hf : firstRefusal (endRefusals s h) = none)
    (hm : s.fillingOf h = some m) (hd : (s.messages.read m).declared = some d) (hne : d ≠ (s.messages.read m).length) :
    ownerSeal h l s = (s, { result := .length, value := word (s.messages.read m).length }) := by
  simp [ownerSeal, isJoined_of_endRefusals_none hf, hm, hd, hne]

theorem ownerSeal_accepted (l : Link) (hf : firstRefusal (endRefusals s h) = none) (hm : s.fillingOf h = some m)
    (hd : ∀ d, (s.messages.read m).declared = some d → d = (s.messages.read m).length) :
    ownerSeal h l s =
      accept (endTurnOf h (countSeal h (s.messages.read m).length (release m (sealMessage m s))))
        (word (((sealMessage m s).messages.read m).refCount - 1)) := by
  cases hdecl : (s.messages.read m).declared with
  | none => simp [ownerSeal, isJoined_of_endRefusals_none hf, hm, hdecl]
  | some d => simp [ownerSeal, isJoined_of_endRefusals_none hf, hm, hdecl, hd d hdecl]

end

/-- Settles O44: the seal looks at no link, so it is the seal of the state in which the transaction has ended. -/
theorem sealDeliversAndCounts : Obligations.SealDeliversAndCounts := by
  rintro s h r ⟨hc, hk⟩
  have hw : isKind .sealMsg r = true := by simp [isKind, hk]
  have htable := endRefusals_closeTransaction h s
  refine ⟨fun c hf => endRequest_refused hc hw (ownerSeal_refused _ (htable ▸ hf)), fun m hf hm => ?_⟩
  rw [← htable] at hf
  refine ⟨fun d hd hne => endRequest_refused hc hw (ownerSeal_length _ hf hm hd hne), fun hd => ?_⟩
  have ho := ownerSeal_accepted (s.links.read h) hf hm hd
  have hsealed : sealMessage m (closeTransaction h s) = (sealMessage m s).withLinks (closeTransaction h s).links := by
    rw [closeTransaction_withLinks, sealMessage_ignoresLinks]
    rfl
  have hseal := (endTurnOf_ignoresLinks h).comp ((countSeal_ignoresLinks h (s.messages.read m).length).comp
    ((release_ignoresLinks m).comp (sealMessage_ignoresLinks m)))
  refine ⟨_, released_release m (sealMessage m s), (endRequest_of_ignoresLinks hc hw hseal ho).trans ?_⟩
  rw [hsealed, ended_eq_withLinks, sealMessage_ignoresLinks, release_ignoresLinks, endTurnOf_eq_turnEnded, countSeal_eq]
  generalize release m (sealMessage m s) = v
  rfl

end Sys2Proof.Machine
end

section
/-! SUPPORT. The status block: its flag bytes bit by bit, and its fields as numbers (R130, R184). -/

namespace Sys2Proof.Machine

/-- The two bytes of a 16-bit field are its value, most significant byte first (R184). -/
theorem bytes16_toNat (w : Word16) :
    256 * (w.extractLsb' 8 8).toNat + (w.extractLsb' 0 8).toNat = w.toNat := by
  simp only [BitVec.extractLsb'_toNat, Nat.shiftRight_eq_div_pow]
  omega

theorem word_toNat {n : Nat} (hn : n < 65536) : (word n).toNat = n := Nat.mod_eq_of_lt hn

theorem byteOf_toNat {n : Nat} (hn : n < 256) : (byteOf n).toNat = n := Nat.mod_eq_of_lt hn

/-- Byte 0 of a status block: the link state in its two low bits and one bit for each flag (R184). -/
theorem statusFlags_spec (m : Membership) (rationed turn vote : Bool) :
    let b := byteOf (m.code + bit rationed 2 + bit turn 3 + bit vote 4)
    b.toNat % 4 = m.code ∧ b.getLsbD 2 = rationed ∧ b.getLsbD 3 = turn ∧ b.getLsbD 4 = vote ∧ b.toNat < 32 := by
  cases m <;> revert rationed turn vote <;> decide

/-- The attention-cause arrangement as a byte: one bit for each latch (R184). -/
theorem latchFlags_spec (l : Latches) :
    let b := byteOf l.toNat
    b.getLsbD 0 = l.delivery ∧ b.getLsbD 1 = l.notice ∧ b.getLsbD 2 = l.credit ∧ b.getLsbD 3 = l.turn
      ∧ b.getLsbD 4 = l.linkError ∧ b.getLsbD 5 = l.ready ∧ b.toNat < 64 := by
  obtain ⟨delivery, notice, credit, turn, linkError, ready⟩ := l
  revert delivery notice credit turn linkError ready
  decide

/-- Settles O8, byte by byte: the flag bytes by their specifications, the counts by their bounds, the results by their
codes. -/
theorem statusBlockBytes : Obligations.StatusBlockBytes := by
  intro s h hnotices hcredit hfree
  obtain ⟨hstate, hrationed, hturn, hvote, h0⟩ :=
    statusFlags_spec (s.members.read h).state s.rationed (s.turn.holder == some h) s.vote.isSome
  obtain ⟨hdelivery, hnotice, hcr, htu, hle, hrd, h1⟩ := latchFlags_spec (s.desks.read h).latches
  refine ⟨_, _, _, _, _, _, _, _, _, _, _, _, rfl, ?_, hrationed, hturn, hvote, h0, hdelivery, hnotice, hcr, htu, hle,
    hrd, h1, ?_, byteOf_toNat hnotices, ?_, ?_, ?_, rfl, bytes16_toNat _⟩
  · rw [hstate]
    cases (s.members.read h).state <;> rfl
  · rw [byteOf_toNat (by omega)]
    split <;> omega
  · rw [bytes16_toNat, word_toNat hcredit]
  · rw [bytes16_toNat, State.freeCount, word_toNat hfree]
  · cases (s.links.read h).lastResult <;> decide

end Sys2Proof.Machine
end

section
/-! SUPPORT. A transaction cut short: the link fault it reports, and the read it undoes (R102, R138, R141). -/

namespace Sys2Proof.Machine

theorem read_setLink_self (s : State) (h : HostId) (l : Link) : (s.setLink h l).links.read h = l :=
  Table.read_write_self _ _ _

theorem setLink_setLink (s : State) (h : HostId) (l l' : Link) : (s.setLink h l).setLink h l' = s.setLink h l' := by
  simp [State.setLink]

/-- A link fault is the last link error, LINK_ERROR latched and LINK_ERRORS advanced (R141). -/
theorem linkFault_eq (h : HostId) (f : LinkFault) (serial : Byte) (s : State) :
    linkFault h f serial s =
      (s.setLink h { s.links.read h with lastFault := f, faultSerial := serial }).setDesk h
        (s.desks.read h).faulted := by
  have hcount : ∀ n : BitVec 16, satIncrement n = if n = 65535#16 then n else n + 1 := fun _ => rfl
  simp [linkFault, latch, Latches.latch, State.modCounters, State.modDesk, State.modLink, State.setLink, State.setDesk,
    Table.update, Desk.faulted, hcount]

/-- The delivery entries after the header of a read that was cut short is undone (R102): the entry that its TAKE opened
is QUEUED again at read offset 0. -/
def entriesAfterVoid (p : Option PendingResult) (entries : Table Entry 256) : Table Entry 256 :=
  match p with
  | some { commit := .take e _ _ _ true, .. } =>
    if (entries.read e).offset = 0 then entries.write e { entries.read e with state := .queued } else entries
  | _ => entries

theorem voidRead_eq (p : Option PendingResult) (s : State) :
    voidRead p s = { s with entries := entriesAfterVoid p s.entries } := by
  match p with
  | none => rfl
  | some ⟨_, _, _, .nothing⟩ | some ⟨_, _, _, .fetchNotice _ _⟩ | some ⟨_, _, _, .readCounter _ _⟩
  | some ⟨_, _, _, .take _ _ _ _ false⟩ => rfl
  | some ⟨_, _, _, .take e _ _ _ true⟩ =>
    by_cases h0 : (s.entries.read e).offset = 0 <;>
      simp [voidRead, entriesAfterVoid, State.modEntry, Table.update, h0]

/-- What R138 calls incomplete: a transaction in its header, or with bytes still expected. -/
theorem isIncomplete_of_underWay {l : Link}
    (hl : l.phase = .header ∨ ((l.phase = .payloadIn ∨ l.phase = .responseOut) ∧ l.remaining ≠ 0)) :
    l.isIncomplete = true := by
  unfold Link.isIncomplete
  obtain hp | ⟨hp | hp, hr⟩ := hl
  · rw [hp]
  · simp [hp, hr]
  · simp [hp, hr]

/-- The transaction ended with VOID and its read undone, before the fault is reported (R138). -/
theorem voidedTransaction_eq (h : HostId) (s : State) :
    setLast h { result := .void, value := 0 } (s.links.read h).serial
        (voidRead (s.links.read h).pendingResult (closeTransaction h s)) =
      { s with entries := entriesAfterVoid (s.links.read h).pendingResult s.entries }.setLink h
        ((s.links.read h).ended .void 0) := by
  rw [setLast_eq _ (by rw [voidRead_eq]), voidRead_eq, closeTransaction_eq]
  rfl

/-- Settles O14: the undone read, then the link fault. -/
theorem transactionVoidUndoesRead : Obligations.TransactionVoidUndoesRead := by
  intro s h hp
  show execTransactionVoid h s = _
  rw [execTransactionVoid, if_pos (isIncomplete_of_underWay hp), voidedTransaction_eq, linkFault_eq,
    read_setLink_self, setLink_setLink]
  rfl

end Sys2Proof.Machine
end

section
/-! SUPPORT. TAKE at its header: what it answers in each case, the descriptor byte by byte, and the opening of the head
entry (R96 to R99). -/

namespace Sys2Proof.Machine

/-! ## TAKE at its header -/

theorem countInRange_eq_true_iff (a : Word16) : countInRange a = true ↔ 1 ≤ a.toNat ∧ a.toNat ≤ 64 := by
  rw [countInRange, Bool.and_eq_true, decide_eq_true_iff, decide_eq_true_iff]
  rfl

/-- A TAKE's header executes the request after the lease is renewed (R134). -/
theorem execTake_of_meetsCheck {s : State} {h : HostId} {b : Byte} {r : Request} (hm : s.meetsCheck h b r)
    (hk : r.kind = some .take) :
    exec (.take h b) s = .next (answerTake h r (renewLease h (captureByte h b s))) := by
  show execTake h b s = _
  rw [execTake, headerEnd_of_meetsCheck hm (by simp [isKind, hk])]

/-- On an empty queue the descriptor is blank beside its outcome, and zeros fill up to the count asked (R97). -/
theorem emptyDescriptor_bytes (n : Nat) :
    (Descriptor.blank .empty).bytes ++ List.replicate n 0 = 1 :: List.replicate (11 + n) 0 := by
  rw [List.replicate_add]
  rfl

section
variable {s : State} {h : HostId} {r : Request}

theorem answerTake_notJoined (hj : s.isJoined h = false) :
    answerTake h r s = respond h (plainResponse (List.replicate 12 0) .notJoined) s := by
  rw [answerTake, if_pos (by simp [hj])]
  rfl

theorem answerTake_badCount (hj : s.isJoined h = true) (hr : countInRange r.a = false) :
    answerTake h r s = respond h (plainResponse (List.replicate 12 0) .badRequest) s := by
  rw [answerTake, if_neg (by simp [hj]), if_pos (by simp [hr])]
  rfl

theorem answerTake_empty (hj : s.isJoined h = true) (hr : countInRange r.a = true) (hq : s.queues.read h = []) :
    answerTake h r s = respond h (plainResponse (1 :: List.replicate (11 + r.a.toNat) 0) .ok) s := by
  rw [answerTake, if_neg (by simp [hj]), if_neg (by simp [hr]), hq, ← emptyDescriptor_bytes]
  rfl

theorem answerTake_head {e : EntryId} {rest : List EntryId} (hj : s.isJoined h = true) (hr : countInRange r.a = true)
    (hq : s.queues.read h = e :: rest) : answerTake h r s = answerTakeHead h r.a.toNat e s := by
  rw [answerTake, if_neg (by simp [hj]), if_neg (by simp [hr]), hq]
  rfl

end

/-! ## TAKE on a head entry -/

/-- The outcome of a TAKE is the first line of R97's table that applies. -/
theorem takeOutcome_eq (m : Message) (x : Entry) : takeOutcome m x =
    if m.state = .aborted then .aborted else if m.state = .filling ∧ x.offset = m.length then .stalled else .data := by
  unfold takeOutcome
  cases m.state <;> simp

theorem takeOutcome_code (m : Message) (x : Entry) : (takeOutcome m x).code =
    if takeOutcome m x = .data then 2 else if takeOutcome m x = .stalled then 3 else 4 := by
  rw [takeOutcome_eq]
  repeat' split
  all_goals simp_all [TakeOutcome.code]

theorem Message.shownLength_eq (m : Message) :
    m.shownLength = if m.state = .filling then m.declared.getD 0 else m.length := by
  unfold Message.shownLength
  cases m.state <;> rfl

/-- A 16-bit field is its two bytes, most significant first. -/
theorem bytes16_eq (w : Word16) : bytes16 w = [BitVec.ofNat 8 (w.toNat / 256), BitVec.ofNat 8 w.toNat] := by
  rw [← bytes16_word, word, BitVec.ofNat_toNat, BitVec.setWidth_eq]

/-- The twelve bytes of a TAKE's descriptor (R99, R185). -/
theorem takeDescriptor_bytes {m : Message} {x : Entry} {o : TakeOutcome} (ho : takeOutcome m x = o) (n : Nat) :
    let count := if o = .data then min n (m.length - x.offset) else 0
    let field (k : Nat) : List Byte := [BitVec.ofNat 8 (k / 256), BitVec.ofNat 8 k]
    (takeDescriptor m x n).bytes =
      [ BitVec.ofNat 8 ((if o = .data then 2 else if o = .stalled then 3 else 4)
          + (if o = .data ∧ x.offset = 0 then 8 else 0)
          + (if o = .data ∧ m.state = .sealed ∧ x.offset + count = m.length then 16 else 0)
          + (if m.state = .filling ∧ m.declared = none then 32 else 0) + 64 * m.publisher.val),
        BitVec.ofNat 8 count ]
      ++ field m.key.toNat ++ field m.sequence.toNat ++ field m.tag.toNat ++ field x.offset
      ++ field (if m.state = .filling then m.declared.getD 0 else m.length) := by
  subst ho
  simp only [Descriptor.bytes, takeDescriptor, bytes16_word, takeOutcome_code, Message.shownLength_eq, bit, byteOf]
  simp [bytes16_eq, and_assoc]

/-- What a TAKE of `n` bytes on an entry puts into the pending result (R97, R98). -/
def State.takeResult (s : State) (n : Nat) (e : EntryId) : PendingResult :=
  let x := s.entries.read e
  let d := takeDescriptor (s.messages.read x.message) x n
  { response := d.bytes ++ s.readBytes x.message x.offset d.count ++ List.replicate (n - d.count) 0
    result := .ok
    value := word d.count
    commit := .take e d.outcome d.count d.last ((d.outcome == .data || d.outcome == .aborted) && x.state == .queued) }

/-- The pending result in the words of R97 to R99, by the outcome. -/
theorem takeResult_eq {s : State} {e : EntryId} {x : Entry} {m : Message} {o : TakeOutcome}
    (hx : s.entries.read e = x) (hm : s.messages.read x.message = m) (ho : takeOutcome m x = o) (n : Nat) :
    let count := if o = .data then min n (m.length - x.offset) else 0
    s.takeResult n e =
      { response := (takeDescriptor m x n).bytes ++ s.readBytes x.message x.offset count ++ List.replicate (n - count) 0
        result := .ok
        value := word count
        commit := .take e o count (decide (o = .data ∧ m.state = .sealed ∧ x.offset + count = m.length))
          (decide ((o = .data ∨ o = .aborted) ∧ x.state = .queued)) } := by
  subst hx hm ho
  simp [State.takeResult, takeDescriptor, Bool.and_assoc, beq_eq_decide]

/-- The delivery entries after a TAKE of an outcome on an entry: DATA and ABORTED open it (R98). -/
def State.entriesAfterTake (s : State) (e : EntryId) (o : TakeOutcome) : Table Entry 256 :=
  if o = .data ∨ o = .aborted then s.entries.write e { s.entries.read e with state := .opened } else s.entries

/-- The opening of an entry, by the outcome. -/
theorem modEntry_opened_eq (s : State) (e : EntryId) (o : TakeOutcome) :
    (if (o == .data || o == .aborted) = true then s.modEntry e (fun x => { x with state := .opened }) else s) =
      { s with entries := s.entriesAfterTake e o } := by
  by_cases ho : o = .data ∨ o = .aborted <;> simp [State.entriesAfterTake, State.modEntry, Table.update, ho]

/-- A head entry is answered from the tables as they stood before the header. -/
theorem answerTakeHead_after_header (h : HostId) (b : Byte) (n : Nat) {e : EntryId} {s : State} {o : TakeOutcome}
    (ho : takeOutcome (s.messages.read (s.entries.read e).message) (s.entries.read e) = o) :
    answerTakeHead h n e (renewLease h (captureByte h b s)) =
      { s.answered h b (s.takeResult n e) with entries := s.entriesAfterTake e o } := by
  have hopened := modEntry_opened_eq (renewLease h (captureByte h b s)) e o
  rw [← respond_after_header]
  subst ho
  rw [renewLease_eq] at hopened ⊢
  exact congrArg (respond h (s.takeResult n e)) hopened

/-- Settles O21, by the four answers of a TAKE, each read off the tables as they stood before the header. -/
theorem takeAnswersHeadEntry : Obligations.TakeAnswersHeadEntry := by
  intro s h b r hm hk
  have hexec := execTake_of_meetsCheck hm hk
  have hqueues : (renewLease h (captureByte h b s)).queues = s.queues := by simp
  have hjoined : (renewLease h (captureByte h b s)).isJoined h = s.isJoined h := renewLease_isJoined h h _
  refine ⟨fun hj => ?_, fun hj hbad => ?_, fun hj hlo hhi hq => ?_, fun e rest hj hlo hhi hq => ?_⟩
  · rw [hexec, answerTake_notJoined (hjoined.trans hj), respond_after_header]
    rfl
  · have hr : countInRange r.a = false := by
      rw [Bool.eq_false_iff, Ne, countInRange_eq_true_iff]
      rintro ⟨hlo, hhi⟩
      obtain hzero | hlarge := hbad
      · simp [hzero] at hlo
      · omega
    rw [hexec, answerTake_badCount (hjoined.trans hj) hr, respond_after_header]
    rfl
  · rw [hexec, answerTake_empty (hjoined.trans hj) ((countInRange_eq_true_iff _).2 ⟨hlo, hhi⟩) (hqueues ▸ hq),
      respond_after_header]
    rfl
  · rw [hexec, answerTake_head (hjoined.trans hj) ((countInRange_eq_true_iff _).2 ⟨hlo, hhi⟩) (hqueues ▸ hq),
      answerTakeHead_after_header h b r.a.toNat (takeOutcome_eq _ _),
      takeResult_eq rfl rfl (takeOutcome_eq _ _), takeDescriptor_bytes (takeOutcome_eq _ _)]
    rfl

end Sys2Proof.Machine
end

section
/-! SUPPORT. TAKE_COMMIT and SKIP: the removal of an entry and the counter TAKEN, on the ended transaction (R100, R101,
R105). -/

namespace Sys2Proof.Machine

/-! ## TAKE_COMMIT (R100, R101) -/

/-- A read whose commit does not look at the links leaves that commit's effect on the ended transaction. -/
theorem endRead_of_ignoresLinks {s : State} {h : HostId} {k : Kind} {p : PendingResult}
    {owner : Commit → State → State} (hc : s.carriesRead h k p) (ho : IgnoresLinks (owner p.commit)) :
    endRead h k owner s = .next (owner p.commit (s.ended h p.result p.value)) := by
  have hlinks : (owner p.commit (closeTransaction h s)).links = (closeTransaction h s).links := by
    rw [closeTransaction_withLinks, ho]
    rfl
  rw [endRead_of_carries hc, setLast_eq { result := p.result, value := p.value } hlinks, closeTransaction_withLinks, ho,
    ended_eq_withLinks, ho]
  rfl

theorem modEntry_ignoresLinks (e : EntryId) (f : Entry → Entry) : IgnoresLinks (fun s => s.modEntry e f) :=
  fun _ _ => rfl

theorem countTaken_ignoresLinks (h : HostId) : IgnoresLinks (countTaken h) := fun _ _ => rfl

/-- TAKEN advances for the host, and nothing else changes (R100). -/
theorem countTaken_eq (h : HostId) (s : State) :
    countTaken h s = s.setDesk h { s.desks.read h with
      counters := { (s.desks.read h).counters with taken := counted (s.desks.read h).counters.taken } } := by
  simp [countTaken, State.modCounters, State.modDesk, State.setDesk, Table.update, satIncrement_eq_counted]

theorem commitTake_ignoresLinks (h : HostId) (c : Commit) : IgnoresLinks (commitTake h c) := by
  have hsame : IgnoresLinks (fun s => s) := fun _ _ => rfl
  cases c with
  | nothing | fetchNotice | readCounter => exact hsame
  | take e o n last opened =>
    cases o with
    | refused | empty | stalled => exact hsame
    | aborted => exact removeEntry_ignoresLinks h e
    | data =>
      have hraise := modEntry_ignoresLinks e (fun x => { x with offset := x.offset + n })
      cases last with
      | false => exact hraise
      | true => exact (countTaken_ignoresLinks h).comp ((removeEntry_ignoresLinks h e).comp hraise)

/-- The removal of an entry does not look at its read offset: a raise just before it makes no difference. -/
theorem removeEntry_raised (h : HostId) (e : EntryId) (n : Nat) (s : State) :
    removeEntry h e (s.modEntry e (fun x => { x with offset := x.offset + n })) = removeEntry h e s := by
  rw [removeEntry_eq, removeEntry_eq]
  simp [State.unqueued, State.modEntry, Table.update]

theorem removeEntry_counters (h : HostId) (e : EntryId) (s : State) (g : HostId) :
    ((removeEntry h e s).desks.read g).counters = (s.desks.read g).counters :=
  congrArg (fun l => l.2.2) (removeEntry_ledger h e s g)

/-- Settles O22, by the outcome committed: the commit looks at no link, so it is that of the state in which the
transaction has ended. -/
theorem takeCommitMovesReader : Obligations.TakeCommitMovesReader := by
  intro s h p hc
  have hcommit : ∀ c, p.commit = c →
      exec (.takeCommit h) s = .next (commitTake h c (s.ended h p.result p.value)) := by
    rintro c rfl
    exact endRead_of_ignoresLinks hc (commitTake_ignoresLinks h p.commit)
  refine ⟨fun e n opened hp => hcommit _ hp, fun e n last opened hp => hcommit _ hp, fun hp => hcommit _ hp,
    fun e n last opened hp => ⟨_, removed_removeEntry h e _, hcommit _ hp⟩,
    fun e n opened hp => ⟨_, removed_removeEntry h e _, ?_⟩⟩
  rw [hcommit _ hp]
  show Host.Outcome.next (countTaken h (removeEntry h e (State.modEntry _ e _))) = _
  rw [removeEntry_raised, countTaken_eq, removeEntry_counters]
  rfl

/-! ## SKIP (R105) -/

section
variable {s : State} {h : HostId}

theorem ownerSkip_empty (l : Link) (hj : s.isJoined h = true) (hq : s.queues.read h = []) :
    ownerSkip h l s = refuse .empty s := by
  simp [ownerSkip, hj, hq]

theorem ownerSkip_head {e : EntryId} {rest : List EntryId} (l : Link) (hj : s.isJoined h = true)
    (hq : s.queues.read h = e :: rest) :
    ownerSkip h l s = accept (removeEntry h e s) (s.messages.read (s.entries.read e).message).sequence := by
  simp [ownerSkip, hj, hq]

end

/-- Settles O40: a removal looks at no link, so it is the removal from the state in which the transaction has ended. -/
theorem skipRemovesHead : Obligations.SkipRemovesHead := by
  rintro s h r ⟨hc, hk⟩ hj
  have hw : isKind .skip r = true := by simp [isKind, hk]
  refine ⟨fun hq => endRequest_refused hc hw (ownerSkip_empty (s := closeTransaction h s) _ hj hq),
    fun e rest hq => ?_⟩
  have ho := ownerSkip_head (s := closeTransaction h s) (s.links.read h) hj hq
  refine ⟨_, endRequest_of_ignoresLinks hc hw (removeEntry_ignoresLinks h e) ho, removed_removeEntry h e _, ?_⟩
  rw [removeEntry_queues, Table.read_write_self]
  show (s.queues.read h).erase e = rest
  rw [hq, List.erase_cons_head]

end Sys2Proof.Machine
end

section
/-! SUPPORT. The Admission Arbiter's judgements: the rationed flag by its table, and the claimant granted next. -/

namespace Sys2Proof.Machine

/-! ## The rationed flag (R109, R112) -/

section
variable {s : State}

theorem reevaluate_of_scarce (hr : s.rationed = false) (hf : s.freeList.length ≤ s.params.reserveThreshold) :
    reevaluate s = { s with rationed := true } := by
  simp [reevaluate, hr, State.freeCount, hf]

theorem reevaluate_of_ample (hr : s.rationed = false) (hf : s.params.reserveThreshold < s.freeList.length) :
    reevaluate s = s := by
  simp [reevaluate, hr, State.freeCount, Nat.not_le.2 hf]

theorem reevaluate_of_still_rationed (hr : s.rationed = true)
    (hf : s.freeList.length < s.params.reserveThreshold + 16) : reevaluate s = s := by
  simp [reevaluate, hr, State.freeCount, Config.hysteresis, Nat.not_le.2 hf]

theorem reevaluate_of_recovered (hr : s.rationed = true) (hf : s.params.reserveThreshold + 16 ≤ s.freeList.length) :
    reevaluate s = endRationing s := by
  simp [reevaluate, hr, State.freeCount, Config.hysteresis, hf]

end

/-- Settles O48, by the four rows of R109's table. -/
theorem rationedFlagJudgement : Obligations.RationedFlagJudgement := by
  intro s
  refine ⟨reevaluate_of_scarce, reevaluate_of_ample, reevaluate_of_still_rationed, fun hr hf => ?_⟩
  obtain ⟨d, he, hd⟩ := endRationing_eq s
  rw [reevaluate_of_recovered hr hf, he]
  exact ⟨rfl, hd⟩

/-! ## The claimant granted next (R118) -/

/-- The first of a list to pass a test is the one that stands before every other that passes it. -/
theorem find?_eq_some_iff_idxOf {α : Type} [DecidableEq α] {l : List α} {p : α → Bool} {a : α} (ha : a ∈ l) :
    l.find? p = some a ↔ p a = true ∧ ∀ b, p b = true → b ≠ a → l.idxOf a < l.idxOf b := by
  induction l with
  | nil => cases ha
  | cons x l ih =>
    by_cases hxa : x = a
    · subst hxa
      cases hp : p x with
      | false => exact iff_of_false (fun h => absurd (List.find?_some h) (by simp [hp])) fun h => nomatch h.1
      | true =>
        simp only [List.find?_cons_of_pos hp, List.idxOf_cons_self, true_and, true_iff]
        intro b _ hb
        rw [List.idxOf_cons_ne l (Ne.symm hb)]
        exact Nat.succ_pos _
    · cases hp : p x with
      | false =>
        have hbefore : ∀ b, p b = true → ((x :: l).idxOf a < (x :: l).idxOf b ↔ l.idxOf a < l.idxOf b) := by
          intro b hb
          have hxb : x ≠ b := by rintro rfl; simp [hp] at hb
          rw [List.idxOf_cons_ne l hxa, List.idxOf_cons_ne l hxb, Nat.succ_lt_succ_iff]
        rw [List.find?_cons_of_neg (by simp [hp]), ih (List.mem_of_ne_of_mem (Ne.symm hxa) ha)]
        exact and_congr_right fun _ => forall_congr' fun b => imp_congr_right fun hb => by rw [hbefore b hb]
      | true =>
        rw [List.find?_cons_of_pos hp]
        refine iff_of_false (fun h => hxa (Option.some.inj h)) fun ⟨_, hfirst⟩ => ?_
        simpa using hfirst x hp hxa

/-- The order of R118: the hosts as they are considered for a grant. -/
def State.grantOrder (s : State) : List HostId := if s.params.precedence then allHosts else roundRobin s.lastServed

theorem nextClaimant_eq (s : State) : s.nextClaimant = s.grantOrder.find? s.claimants.read := rfl

theorem mem_grantOrder (s : State) (h : HostId) : h ∈ s.grantOrder := by
  have hround : ∀ (l : HostId), h ∈ [l + 1, l + 2, l + 3, l] := by revert h; decide
  unfold State.grantOrder
  split
  · exact mem_allHosts h
  · cases s.lastServed with
    | none => exact mem_allHosts h
    | some l => exact hround l

theorem nextClaimant_eq_none_iff (s : State) : s.nextClaimant = none ↔ s.claimants = noHosts := by
  simp [nextClaimant_eq, List.find?_eq_none, mem_grantOrder, noHosts_iff]

theorem idxOf_allHosts (h : HostId) : allHosts.idxOf h = h.val := by revert h; decide

theorem idxOf_roundRobin (l h : HostId) : (roundRobin (some l)).idxOf h = (h.val + 3 - l.val) % 4 := by
  revert l h; decide

/-- Settles O49: the order of the grant is the order of the positions in it. -/
theorem nextTurnFollowsOrder : Obligations.NextTurnFollowsOrder := by
  intro s h
  refine ⟨nextClaimant_eq_none_iff s, ?_⟩
  rw [nextClaimant_eq, find?_eq_some_iff_idxOf (mem_grantOrder s h)]
  refine and_congr_right fun _ => forall_congr' fun g => imp_congr_right fun _ => imp_congr_right fun _ => ?_
  unfold State.grantOrder
  split
  · rw [idxOf_allHosts, idxOf_allHosts, Fin.lt_def]
  · cases s.lastServed with
    | none => rw [roundRobin, idxOf_allHosts, idxOf_allHosts, Fin.lt_def]
    | some l => rw [idxOf_roundRobin, idxOf_roundRobin]

end Sys2Proof.Machine
end

section
/-! SUPPORT. SET of an exchange-wide parameter: its table, and the parameter stored (R158). -/

namespace Sys2Proof.Machine

theorem setRefusals_closeTransaction (h : HostId) (inRange shared : Bool) (s : State) :
    setRefusals (closeTransaction h s) h inRange shared = setRefusals s h inRange shared := by
  simp [setRefusals, State.isJoined]

/-- Condition 4 of R158, slot by slot. -/
theorem paramsLocked_eq (s : State) : s.paramsLocked =
    ((List.finRange 32).any (fun c => (s.channels.read c).state != .closed) || s.vote.isSome) := by
  have hslots : (s.nonClosed != 0) = (List.finRange 32).any (fun c => (s.channels.read c).state != .closed) := by
    rw [Bool.eq_iff_iff]
    simp [State.nonClosed, Table.countIf, Table.indices]
  rw [State.paramsLocked, hslots]

/-- A SET of an exchange-wide parameter follows R158's table. -/
theorem ownerSetShared_by_table (h : HostId) (inRange : Nat → Bool) (store : Word16 → State → State) (l : Link)
    (s : State) :
    ownerSetShared h inRange store l s =
      match firstRefusal (setRefusals s h (inRange l.request.b.toNat) true) with
      | some c => refuse c s
      | none => accept (store l.request.b s) l.request.b := by
  simp only [ownerSetShared, setRefusals, Bool.true_and, ← paramsLocked_eq]
  cases s.isJoined h
  · rfl
  cases inRange l.request.b.toNat
  · rfl
  cases s.paramsLocked <;> rfl

section
variable {s : State} {h : HostId} {i : Ident} {r : Request} {inRange : Nat → Bool} {store : Word16 → State → State}
  (hc : s.carriesSet h i r)
include hc

theorem isSetOf_of_carriesSet : isSetOf i r = true := by
  obtain ⟨⟨-, hk⟩, hi⟩ := hc
  simp [isSetOf, hk, hi]

theorem endRequest_setShared_refused {c : ResultCode}
    (hf : firstRefusal (setRefusals s h (inRange r.b.toNat) true) = some c) :
    endRequest h (isSetOf i) (ownerSetShared h inRange store) s = .next (s.ended h c 0) := by
  have hw := isSetOf_of_carriesSet hc
  obtain ⟨⟨hr, -⟩, -⟩ := hc
  refine endRequest_refused hr hw ?_
  obtain ⟨-, -, -, rfl⟩ := hr
  rw [ownerSetShared_by_table, setRefusals_closeTransaction, hf]
  rfl

theorem endRequest_setShared_accepted (hs : ∀ b, IgnoresLinks (store b))
    (hf : firstRefusal (setRefusals s h (inRange r.b.toNat) true) = none) :
    endRequest h (isSetOf i) (ownerSetShared h inRange store) s = .next (store r.b (s.ended h .ok r.b)) := by
  have hw := isSetOf_of_carriesSet hc
  obtain ⟨⟨hr, -⟩, -⟩ := hc
  refine endRequest_of_ignoresLinks (reply := { result := .ok, value := r.b }) hr hw (hs r.b) ?_
  obtain ⟨-, -, -, rfl⟩ := hr
  rw [ownerSetShared_by_table, setRefusals_closeTransaction, hf]
  rfl

/-- A parameter that is stored and has no further effect. -/
theorem endRequest_setParams (inRange : Nat → Bool) (f : Word16 → Params → Params) :
    (∀ c, firstRefusal (setRefusals s h (inRange r.b.toNat) true) = some c →
      endRequest h (isSetOf i) (ownerSetShared h inRange fun b t => { t with params := f b t.params }) s =
        .next (s.ended h c 0))
    ∧ (firstRefusal (setRefusals s h (inRange r.b.toNat) true) = none →
      endRequest h (isSetOf i) (ownerSetShared h inRange fun b t => { t with params := f b t.params }) s =
        .next { s.ended h .ok r.b with params := f r.b s.params }) :=
  ⟨fun _ => endRequest_setShared_refused hc, endRequest_setShared_accepted hc fun _ _ _ => rfl⟩

end

/-- A threshold stored on a whole free list leaves the flag clear: 512 cells are above every threshold in range. -/
theorem reevaluate_of_whole_pool {s : State} (hr : s.rationed = false) (hf : s.freeList.length = 512)
    (ht : s.params.reserveThreshold ≤ 256) : reevaluate s = s := reevaluate_of_ample hr (by omega)

theorem setReserveThreshold_ignoresLinks (b : Word16) :
    IgnoresLinks (fun t => reevaluate { t with params := { t.params with reserveThreshold := b.toNat } }) :=
  reevaluate_ignoresLinks.comp (g := fun t => { t with params := { t.params with reserveThreshold := b.toNat } })
    fun _ _ => rfl

/-- Settles O26: each identifier by R158's table; a reserve threshold is judged on the whole free list. -/
theorem setSharedParameter : Obligations.SetSharedParameter := by
  intro s h r
  refine ⟨fun hc => ⟨fun c hf => ?_, fun hf hr hfree => ?_⟩, fun hc => ?_, fun hc => ?_, fun hc => ?_, fun hc => ?_⟩
  · rw [exec, execSetReserveThreshold]
    exact endRequest_setShared_refused hc hf
  · have hrange : r.b.toNat ≤ 256 := by
      simpa using (firstRefusal_eq_none_iff _).1 hf (!decide (r.b.toNat ≤ 256), .badRequest) (by simp [setRefusals])
    rw [exec, execSetReserveThreshold, endRequest_setShared_accepted hc setReserveThreshold_ignoresLinks hf]
    exact congrArg _ (reevaluate_of_whole_pool hr hfree hrange)
  · exact endRequest_setParams hc (fun n => decide (1 ≤ n) && decide (n ≤ 1000))
      fun b p => { p with turnWindow := b.toNat }
  · exact endRequest_setParams hc (fun n => decide (10 ≤ n) && decide (n ≤ 5000))
      fun b p => { p with voteWindow := b.toNat }
  · have hset := endRequest_setParams hc (fun n => decide (n ≤ 1)) fun b p => { p with precedence := b == 1 }
    have hflag : (r.b == 1) = decide (r.b.toNat = 1) := by
      rw [Bool.eq_iff_iff]
      simp [BitVec.toNat_eq]
    rw [hflag] at hset
    exact hset
  · exact endRequest_setParams hc (fun n => decide (1 ≤ n) && decide (n ≤ 512))
      fun b p => { p with quotaCeiling := b.toNat }

end Sys2Proof.Machine
end

section
/-! SUPPORT. The turn record and the deadlines through the shared operations: the fields both laws look at, and that
every operation of the exchange keeps what the laws say of them. -/

namespace Sys2Proof.Machine

/-! ## What the laws look at -/

/-- The fields that the turn record's law and the deadlines' law speak of. -/
def State.schedule (s : State) : Nat × Bool × Turn × HostSet × Table Member 4 × Option Vote :=
  (s.now, s.rationed, s.turn, s.claimants, s.members, s.vote)

/-- An event keeps the turn record in order, and leaves no deadline behind the time. -/
structure KeepsSchedule (s t : State) : Prop where
  turn : turnRecordLaw s → turnRecordLaw t
  deadlines : deadlineLaw s → deadlineLaw t

namespace KeepsSchedule

variable {s t u : State}

theorem trans (hst : KeepsSchedule s t) (htu : KeepsSchedule t u) : KeepsSchedule s u :=
  ⟨fun hl => htu.turn (hst.turn hl), fun hl => htu.deadlines (hst.deadlines hl)⟩

/-- The fields are as they were. -/
theorem of_eq (h : t.schedule = s.schedule) : KeepsSchedule s t := by
  simp only [State.schedule, Prod.mk.injEq] at h
  obtain ⟨hnow, hrationed, hturn, hclaimants, hmembers, hvote⟩ := h
  constructor
  · simp only [turnRecordLaw, State.isJoined, hrationed, hturn, hclaimants, hmembers, imp_self]
  · simp only [deadlineLaw, State.isJoined, hnow, hturn, hmembers, hvote, imp_self]

theorem refl (s : State) : KeepsSchedule s s := of_eq rfl

theorem foldl {α : Type} {f : State → α → State} (hf : ∀ s a, KeepsSchedule s (f s a)) (l : List α) (s : State) :
    KeepsSchedule s (l.foldl f s) :=
  foldl_invariant (P := KeepsSchedule s) (fun t a ht => ht.trans (hf t a)) l (refl s)

/-- No turn and no claimant are left, and no vote is opened. -/
theorem of_no_turn (hturn : t.turn = .none) (hclaimants : t.claimants = noHosts) (hnow : t.now = s.now)
    (hmembers : t.members = s.members) (hvote : ∀ v, t.vote = some v → s.vote = some v) : KeepsSchedule s t where
  turn _ := ⟨fun _ => ⟨hturn, hclaimants⟩, fun h => absurd hclaimants h, by simp [hturn, Turn.holder],
    by simp [hclaimants]⟩
  deadlines := by
    rintro ⟨hlease, -, hopen⟩
    refine ⟨?_, by simp [hturn, Turn.deadline], fun v hv => hnow ▸ hopen v (hvote v hv)⟩
    simpa only [State.isJoined, hmembers, hnow] using hlease

/-- A vote whose deadline is not behind the time, or that of the vote before. -/
theorem setVote (s : State) {v : Option Vote}
    (hv : ∀ x, v = some x → s.now ≤ x.deadline ∨ ∃ y, s.vote = some y ∧ x.deadline = y.deadline) :
    KeepsSchedule s { s with vote := v } where
  turn := id
  deadlines := by
    rintro ⟨hlease, hturn, hopen⟩
    refine ⟨hlease, hturn, fun x hx => ?_⟩
    obtain hle | ⟨y, hy, heq⟩ := hv x hx
    · exact hle
    · exact heq ▸ hopen y hy

/-- A host record whose host stays JOINED or joins, with a lease deadline that is not behind the time, or is that of a
JOINED host before. -/
theorem modMember (s : State) {h : HostId} {f : Member → Member}
    (hstate : (s.members.read h).state = .joined → (f (s.members.read h)).state = .joined)
    (hlease : (f (s.members.read h)).state = .joined → ∀ d, (f (s.members.read h)).leaseDeadline = some d →
      s.now ≤ d ∨ ((s.members.read h).state = .joined ∧ (s.members.read h).leaseDeadline = some d)) :
    KeepsSchedule s (s.modMember h f) where
  turn := by
    have hjoined : ∀ g, s.isJoined g = true → (s.modMember h f).isJoined g = true := by
      intro g hg
      by_cases hgh : g = h
      · subst hgh
        simpa [State.isJoined] using hstate (by simpa [State.isJoined] using hg)
      · simpa [State.isJoined, Table.read_update, hgh] using hg
    rintro ⟨hidle, hclaim, hholder, hclaimants⟩
    exact ⟨hidle, hclaim, fun g hg => hjoined g (hholder g hg), fun g hg => hjoined g (hclaimants g hg)⟩
  deadlines := by
    rintro ⟨hleases, hturn, hvote⟩
    refine ⟨fun g d hj hd => ?_, hturn, hvote⟩
    by_cases hgh : g = h
    · subst hgh
      obtain hle | ⟨hj', hd'⟩ := hlease (by simpa [State.isJoined] using hj) d (by simpa using hd)
      · exact hle
      · exact hleases g d (by simpa [State.isJoined] using hj') hd'
    · exact hleases g d (by simpa [State.isJoined, Table.read_update, hgh] using hj)
        (by simpa [Table.read_update, hgh] using hd)

end KeepsSchedule

/-! ## The arbiter -/

/-- A rationing that starts has no turn yet, and one that ends leaves none (R111, R112). -/
theorem keepsSchedule_reevaluate (s : State) : KeepsSchedule s (reevaluate s) := by
  unfold reevaluate
  split
  · split
    · obtain ⟨d, he, -⟩ := endRationing_eq s
      rw [he]
      exact .of_no_turn rfl rfl rfl rfl fun _ hv => hv
    · exact .refl s
  · split
    · exact ⟨fun ⟨_, hclaim, hholder, hclaimants⟩ => ⟨nofun, hclaim, hholder, hclaimants⟩, id⟩
    · exact .refl s

/-- A turn passes to a claimant, who is JOINED, and to none where there is none (R117, R118). -/
theorem keepsSchedule_endTurn (s : State) : KeepsSchedule s (endTurn s) := by
  obtain ⟨hn, he⟩ | ⟨g, hn, he⟩ := endTurn_cases s <;> rw [he]
  · exact .of_no_turn rfl ((nextClaimant_eq_none_iff s).1 hn) rfl rfl fun _ hv => hv
  have hg := nextClaimant_claims hn
  constructor
  · rintro ⟨hidle, -, -, hclaimants⟩
    refine ⟨fun hr => ?_, fun _ => nofun, fun h hh => ?_, fun h hh => ?_⟩
    · rw [(hidle hr).2, noHosts_read] at hg
      cases hg
    · cases hh
      exact hclaimants g hg
    · rw [HostSet.read_erase] at hh
      exact hclaimants h (by split at hh <;> simp_all)
  · rintro ⟨hlease, -, hvote⟩
    refine ⟨hlease, fun d hd => ?_, hvote⟩
    cases hd
    exact Nat.le_add_right _ _

theorem keepsSchedule_endTurnOf (h : HostId) (s : State) : KeepsSchedule s (endTurnOf h s) := by
  unfold endTurnOf
  split
  · split
    · exact keepsSchedule_endTurn s
    · exact .refl s
  · exact .refl s

/-- A JOINED host's BEGIN takes a turn or claims one (R114, R115). -/
theorem keepsSchedule_arbitrate {h : HostId} {s : State} (hj : s.isJoined h = true) :
    KeepsSchedule s (arbitrate h s).1 := by
  obtain ⟨-, ha⟩ | ⟨hr, d, ha, hd⟩ | ⟨hr, ha, g, d, ht⟩ := arbitrate_cases h s <;> rw [ha]
  · exact .refl s
  · constructor
    · rintro ⟨-, -, -, hclaimants⟩
      refine ⟨fun hr' => by simp [hr] at hr', fun _ => nofun, fun g hg => ?_, hclaimants⟩
      cases hg
      exact hj
    · rintro ⟨hlease, hturn, hvote⟩
      refine ⟨hlease, fun e he => ?_, hvote⟩
      cases he
      obtain ⟨-, rfl⟩ | ht := hd
      · exact Nat.le_add_right _ _
      · exact hturn d (by rw [ht]; rfl)
  · constructor
    · rintro ⟨-, -, hholder, hclaimants⟩
      refine ⟨fun hr' => by simp [hr] at hr', fun _ hn => ?_, hholder, fun k hk => ?_⟩
      · obtain ht | ⟨ht, -⟩ := ht <;> cases ht.symm.trans hn
      · rw [HostSet.read_insert] at hk
        split at hk
        · next heq => exact heq ▸ hj
        · exact hclaimants k hk
    · exact id

theorem keepsSchedule_withdraw (h : HostId) (s : State) : KeepsSchedule s (withdraw h s) := by
  have herase : KeepsSchedule s { s with claimants := HostSet.erase s.claimants h } := by
    have hsub : ∀ g, (HostSet.erase s.claimants h).read g = true → s.claimants.read g = true := by
      intro g hg
      rw [HostSet.read_erase] at hg
      split at hg
      · cases hg
      · exact hg
    refine ⟨fun ⟨hidle, hclaim, hholder, hclaimants⟩ => ⟨fun hr => ?_, fun hne => ?_, hholder, fun g hg => ?_⟩, id⟩
    · refine ⟨(hidle hr).1, (noHosts_iff _).2 fun g => Bool.eq_false_of_not_eq_true fun hg => ?_⟩
      simpa [(hidle hr).2] using hsub g hg
    · refine hclaim fun hn => hne ((noHosts_iff _).2 fun g => Bool.eq_false_of_not_eq_true fun hg => ?_)
      simpa [hn] using hsub g hg
    · exact hclaimants g (hsub g hg)
  unfold withdraw
  dsimp only
  split
  · exact herase.trans (keepsSchedule_endTurn _)
  · exact herase

/-! ## Cells, messages and entries -/

theorem keepsSchedule_freeMessage (m : MsgId) (s : State) : KeepsSchedule s (freeMessage m s) := by
  have hreturned : KeepsSchedule s (afterReturn m s) := by
    unfold afterReturn
    split
    · exact .refl s
    · exact .trans (t := returnCells (s.chainOf m) s) (.of_eq (by simp [State.schedule])) (keepsSchedule_reevaluate _)
  rw [freeMessage_eq]
  exact hreturned.trans (.of_eq (by simp [State.schedule]))

theorem keepsSchedule_release (m : MsgId) (s : State) : KeepsSchedule s (release m s) := by
  have hcount : KeepsSchedule s (s.modMessage m (fun x => { x with refCount := x.refCount - 1 })) := .of_eq rfl
  unfold release
  dsimp only
  split
  · exact hcount.trans (keepsSchedule_freeMessage m _)
  · exact hcount

theorem keepsSchedule_abortMessage (m : MsgId) (s : State) : KeepsSchedule s (abortMessage m s) := by
  have hmark : KeepsSchedule s (s.markAborted m) := .of_eq rfl
  have hcount : KeepsSchedule s (countAbort (s.messages.read m).publisher (release m (s.markAborted m))) :=
    (hmark.trans (keepsSchedule_release m _)).trans (.of_eq rfl)
  rw [abortMessage_eq]
  exact hcount.trans (keepsSchedule_endTurnOf _ _)

theorem keepsSchedule_removeEntry (h : HostId) (e : EntryId) (s : State) : KeepsSchedule s (removeEntry h e s) := by
  rw [removeEntry_eq]
  exact .trans (t := s.unqueued h e) (.of_eq rfl) (keepsSchedule_release _ _)

theorem keepsSchedule_removeEntries (h : HostId) (es : List EntryId) (s : State) :
    KeepsSchedule s (removeEntries h es s) := .foldl (fun s e => keepsSchedule_removeEntry h e s) es s

theorem keepsSchedule_freeSubscription (i : SubId) (s : State) : KeepsSchedule s (freeSubscription i s) := .of_eq rfl

theorem keepsSchedule_post (h : HostId) (n : Notice) (s : State) : KeepsSchedule s (post h n s) :=
  .of_eq (by simp [State.schedule])

theorem keepsSchedule_postAll (n : Notice) (s : State) : KeepsSchedule s (postAll n s) :=
  .of_eq (by simp [State.schedule])

theorem keepsSchedule_postOthers (h : HostId) (n : Notice) (s : State) : KeepsSchedule s (postOthers h n s) :=
  .of_eq (by simp [State.schedule])

theorem keepsSchedule_deliver (m : MsgId) (h : HostId) (i : SubId) (s : State) : KeepsSchedule s (deliver m h i s) := by
  obtain ⟨-, e, -, ho⟩ | ⟨n, ho⟩ | ⟨-, -, e, -, ho⟩ := deliver_cases m h i s <;> rw [ho]
  · exact .of_eq (by simp [State.schedule])
  · exact .of_eq (by simp [State.schedule])
  · unfold displace
    exact (keepsSchedule_removeEntry h e s).trans (.of_eq (by simp [State.schedule]))

theorem keepsSchedule_createDeliveries (m : MsgId) (s : State) : KeepsSchedule s (createDeliveries m s) := by
  unfold createDeliveries
  exact .foldl (fun s (t : HostId × SubId) => keepsSchedule_deliver m t.1 t.2 s) _ s

theorem takeCells_schedule {k : Nat} {s t : State} {run : List CellId} (ht : takeCells k s = some (run, t)) :
    t.schedule = s.schedule := by
  unfold takeCells at ht
  split at ht <;> cases ht
  simp [State.schedule]

theorem keepsSchedule_chargeCells (m : MsgId) (k : Nat) (s : State) : KeepsSchedule s (chargeCells m k s) := by
  have hcharged : ∀ (run : List CellId) (p : HostId) (c : Nat) (t : State),
      KeepsSchedule t (attachRun m run (reevaluate (setCharge p c t))) := fun run p c t =>
    .trans (t := setCharge p c t) (.of_eq (by simp [State.schedule]))
      ((keepsSchedule_reevaluate _).trans (.of_eq (by simp [State.schedule])))
  unfold chargeCells
  split
  · exact .refl s
  split
  · exact .refl s
  · next run t ht => exact .trans (.of_eq (takeCells_schedule ht)) (hcharged run _ _ t)

theorem keepsSchedule_appendBytes (m : MsgId) (bs : List Byte) (s : State) : KeepsSchedule s (appendBytes m bs s) := by
  refine (keepsSchedule_chargeCells m (newCells (s.messages.read m).length bs.length) s).trans (.of_eq ?_)
  unfold appendBytes
  dsimp only
  split <;> rfl

/-! ## Votes, clears and departures -/

theorem keepsSchedule_exchangeClear (s : State) : KeepsSchedule s (exchangeClear s) := by
  rw [exchangeClear_eq_desks, cleared_eq]
  exact .of_no_turn rfl rfl rfl rfl nofun

theorem keepsSchedule_voteClosed (s : State) : KeepsSchedule s { s with vote := none } := .setVote s nofun

theorem keepsSchedule_judgeVote (s : State) : KeepsSchedule s (judgeVote s) := by
  unfold judgeVote
  split
  · exact .refl s
  · split
    · exact (keepsSchedule_voteClosed s).trans (keepsSchedule_postAll _ _)
    · split
      · exact (keepsSchedule_voteClosed s).trans (keepsSchedule_exchangeClear _)
      · exact .refl s

/-- A vote that is opened has the vote window before it; one that goes on keeps its deadline (R161). -/
theorem keepsSchedule_castVote (h : HostId) (s : State) : KeepsSchedule s (castVote h s) := by
  unfold castVote
  split
  · next v hv =>
    refine .setVote s fun x hx => .inr ⟨v, hv, ?_⟩
    cases hx
    rfl
  · refine .trans (.setVote s (v := some _) fun x hx => .inl ?_) (keepsSchedule_postOthers h _ _)
    cases hx
    exact Nat.le_add_right _ _

theorem keepsSchedule_withdrawVote (h : HostId) (s : State) : KeepsSchedule s (withdrawVote h s) := by
  unfold withdrawVote
  refine .trans (.setVote s fun x hx => ?_) (keepsSchedule_judgeVote _)
  obtain ⟨v, hv, rfl⟩ := Option.map_eq_some_iff.1 hx
  exact .inr ⟨v, hv, rfl⟩

theorem keepsSchedule_silenced (h : HostId) (s : State) : KeepsSchedule s (s.silenced h) := by
  have hqueue : KeepsSchedule s (s.unsubscribed h) :=
    .trans (t := freeSubscriptionsOf h s) (.foldl (fun s i => keepsSchedule_freeSubscription i s) _ s)
      (keepsSchedule_removeEntries h _ _)
  have habort : KeepsSchedule (s.unsubscribed h) (abortFillingOf h (s.unsubscribed h)) := by
    unfold abortFillingOf
    split
    · exact keepsSchedule_abortMessage _ _
    · exact .refl _
  exact (hqueue.trans habort).trans (keepsSchedule_withdraw h _)

/-- A departing host has no turn and no claim before it is no longer JOINED, and its lease deadline goes (steps 4 and 9
of R154). -/
theorem keepsSchedule_dismantle (h : HostId) (final : Membership) (s : State) :
    KeepsSchedule s (dismantle h final s) := by
  have hsilenced := keepsSchedule_silenced h s
  obtain ⟨hholder, hclaim⟩ := dismantle_turn h final s
  rw [dismantle_eq] at hholder hclaim ⊢
  have hothers : ∀ g, g ≠ h → ∀ x : Member,
      ((s.silenced h).members.write h x).read g = (s.silenced h).members.read g := fun g hg x =>
    Table.read_write_ne _ _ hg
  constructor
  · intro hl
    obtain ⟨hidle, hclaimed, hholders, hclaimants⟩ := hsilenced.turn hl
    refine ⟨hidle, hclaimed, fun g hg => ?_, fun g hg => ?_⟩
    · have hgh : g ≠ h := by rintro rfl; exact hholder hg
      simpa [State.isJoined, hothers g hgh] using hholders g hg
    · have hgh : g ≠ h := by rintro rfl; simp [hclaim] at hg
      simpa [State.isJoined, hothers g hgh] using hclaimants g hg
  · intro hl
    obtain ⟨hlease, hturn, hvote⟩ := hsilenced.deadlines hl
    refine ⟨fun g d hj hd => ?_, hturn, hvote⟩
    have hgh : g ≠ h := by rintro rfl; simp at hd
    exact hlease g d (by simpa [State.isJoined, hothers g hgh] using hj) (by simpa [hothers g hgh] using hd)

theorem keepsSchedule_teardown (h : HostId) (final : Membership) (n : Notice) (s : State) :
    KeepsSchedule s (teardown h final n s) :=
  ((keepsSchedule_dismantle h final s).trans (keepsSchedule_withdrawVote h _)).trans (keepsSchedule_postAll n _)

end Sys2Proof.Machine
end

section
/-! SUPPORT. The turn record and the deadlines through every command, and the expiries that act when a deadline is
reached (R119, R162, R188). -/

namespace Sys2Proof.Machine

/-! ## Requests and reads -/

section
variable (h : HostId) (l : Link) (s : State)

theorem keepsSchedule_ownerJoin : KeepsSchedule s (ownerJoin h l s).1 := by
  have hadmitted : KeepsSchedule s (admitMember h l.request s) := by
    refine .trans (t := s.modMember h fun x =>
      { x with
        leasePeriod := l.request.a.toNat, creditThreshold := l.request.c.toNat
        leaseDeadline := leaseDeadlineOf s.now l.request.a.toNat, state := .joined }) (.modMember s ?_ ?_) (.of_eq ?_)
    · exact fun _ => rfl
    · intro _ d hd
      simp only [leaseDeadlineOf] at hd
      split at hd <;> cases hd
      exact .inl (Nat.le_add_right _ _)
    · simp [State.schedule, admitMember]
  have htold := hadmitted.trans (keepsSchedule_postOthers h (.hostJoined h) _)
  unfold ownerJoin
  dsimp only
  split
  · exact .refl s
  split
  · exact .refl s
  · rw [accept_fst, tellVote]
    split
    · exact (htold.trans (keepsSchedule_post _ _ _)).trans (keepsSchedule_judgeVote _)
    · exact htold

theorem keepsSchedule_ownerLeave : KeepsSchedule s (ownerLeave h l s).1 := by
  unfold ownerLeave
  split
  · rw [accept_fst]
    exact keepsSchedule_teardown h _ _ s
  · exact .refl s

theorem keepsSchedule_ownerVoteClear : KeepsSchedule s (ownerVoteClear h l s).1 := by
  unfold ownerVoteClear
  split
  · rw [accept_fst]
    exact (keepsSchedule_castVote h s).trans (keepsSchedule_judgeVote _)
  · exact .refl s

theorem keepsSchedule_storeLease (b : Word16) :
    KeepsSchedule s (s.modMember h fun x =>
      { x with leasePeriod := b.toNat, leaseDeadline := leaseDeadlineOf s.now b.toNat }) := by
  refine .modMember s id fun _ d hd => ?_
  simp only [leaseDeadlineOf] at hd
  split at hd <;> cases hd
  exact .inl (Nat.le_add_right _ _)

theorem keepsSchedule_storeReserve (b : Word16) :
    KeepsSchedule s (reevaluate { s with params := { s.params with reserveThreshold := b.toNat } }) :=
  .trans (t := { s with params := { s.params with reserveThreshold := b.toNat } }) (.of_eq rfl)
    (keepsSchedule_reevaluate _)

/-- A host record that keeps its state and its lease deadline. -/
theorem keepsSchedule_modMember_of_same {f : Member → Member}
    (hf : ∀ x, (f x).state = x.state ∧ (f x).leaseDeadline = x.leaseDeadline) :
    KeepsSchedule s (s.modMember h f) :=
  .modMember s (fun hj => (hf _).1.trans hj) fun hj _ hd => .inr ⟨(hf _).1.symm.trans hj, (hf _).2.symm.trans hd⟩

theorem keepsSchedule_storeThreshold (b : Word16) : KeepsSchedule s (storeThreshold h b s) := by
  have hstored : KeepsSchedule s (s.modMember h (fun x => { x with creditThreshold := b.toNat })) :=
    keepsSchedule_modMember_of_same h s fun _ => ⟨rfl, rfl⟩
  unfold storeThreshold
  dsimp only
  split
  · exact hstored.trans (.of_eq rfl)
  · exact hstored

theorem keepsSchedule_renewLease : KeepsSchedule s (renewLease h s) := by
  unfold renewLease
  split
  · refine .modMember s id fun _ d hd => ?_
    cases hd
    exact .inl (Nat.le_add_right _ _)
  · exact .refl s

theorem keepsSchedule_ownerAck : KeepsSchedule s (ownerAck h l s).1 := by
  unfold ownerAck
  dsimp only
  split
  · exact .refl s
  · exact .of_eq rfl

theorem keepsSchedule_ownerOpenChannel : KeepsSchedule s (ownerOpenChannel h l s).1 := by
  unfold ownerOpenChannel
  dsimp only
  split
  · exact .refl s
  split
  · exact .refl s
  split
  · split
    · exact .refl s
    · split
      · exact .refl s
      · exact .of_eq rfl
  · exact .refl s

theorem keepsSchedule_closeChannel (c : ChanId) : KeepsSchedule s (closeChannel c s) := by
  have haborts : KeepsSchedule s (closeAborts c s) := by
    unfold closeAborts
    exact .foldl (fun s m => (keepsSchedule_abortMessage m s).trans (keepsSchedule_post _ _ _)) _ s
  have hsubs : KeepsSchedule (closeAborts c s) (closeSubscriptions c (closeAborts c s)) := by
    unfold closeSubscriptions
    exact .foldl (fun s i => (keepsSchedule_freeSubscription i s).trans (keepsSchedule_post _ _ _)) _ _
  exact (haborts.trans hsubs).trans (.of_eq rfl)

theorem keepsSchedule_ownerCloseChannel : KeepsSchedule s (ownerCloseChannel h l s).1 := by
  unfold ownerCloseChannel
  dsimp only
  split
  · exact .refl s
  split
  · exact .refl s
  split
  · exact .refl s
  split
  · exact .refl s
  split
  · exact .refl s
  · exact keepsSchedule_closeChannel s _

theorem keepsSchedule_ownerSubscribe : KeepsSchedule s (ownerSubscribe h l s).1 := by
  obtain ho | ⟨c, i, p, -, -, -, -, ho⟩ := ownerSubscribe_leaves h l s <;> rw [ho]
  · exact .refl s
  · exact .of_eq rfl

theorem keepsSchedule_ownerUnsubscribe : KeepsSchedule s (ownerUnsubscribe h l s).1 := by
  obtain ⟨c, -, ho⟩ | ⟨-, i, -, ho⟩ := ownerUnsubscribe_cases h l s <;> rw [ho]
  · exact .refl s
  · exact (keepsSchedule_removeEntries h _ s).trans (keepsSchedule_freeSubscription i _)

theorem keepsSchedule_ownerRest (rest : SubState) : KeepsSchedule s (ownerRest h rest l s).1 := by
  obtain ⟨c, -, ho⟩ | ⟨-, i, -, ho⟩ := ownerRest_cases h rest l s <;> rw [ho]
  · exact .refl s
  · exact .of_eq rfl

theorem keepsSchedule_startMessage (r : Request) (i : ChanId) (m : MsgId) :
    KeepsSchedule s (startMessage h r i m s) := by
  have hmade : KeepsSchedule s ((s.modMessage m (fun _ => newMessage h r i (s.channels.read i))).modChannel i
      (fun x => { x with nextSequence := x.nextSequence + 1, liveCount := x.liveCount + 1 })) := .of_eq rfl
  unfold startMessage
  dsimp only
  split
  · exact hmade.trans (keepsSchedule_createDeliveries m _)
  · exact hmade

/-- The arbiter is asked for a JOINED host alone (check 1 of R62). -/
theorem keepsSchedule_ownerBegin : KeepsSchedule s (ownerBegin h l s).1 := by
  cases hj : s.isJoined h with
  | false => simpa [ownerBegin, hj] using .refl s
  | true =>
    obtain ho | ho | ⟨i, m, -, ho⟩ := ownerBegin_cases h l s <;> rw [ho]
    · exact .refl s
    · exact keepsSchedule_arbitrate hj
    · exact (keepsSchedule_arbitrate hj).trans (keepsSchedule_startMessage h _ _ i m)

theorem keepsSchedule_ownerPut : KeepsSchedule s (ownerPut h l s).1 := by
  unfold ownerPut
  dsimp only
  split
  · exact .refl s
  split
  · exact .refl s
  split
  · exact .refl s
  split
  · exact .refl s
  split
  · exact .refl s
  · exact keepsSchedule_appendBytes _ _ s

theorem keepsSchedule_sealMessage (m : MsgId) : KeepsSchedule s (sealMessage m s) := by
  have hsealed : KeepsSchedule s (s.modMessage m (fun x => { x with state := .sealed })) := .of_eq rfl
  unfold sealMessage
  dsimp only
  split
  · exact hsealed.trans (keepsSchedule_createDeliveries m _)
  · exact hsealed

theorem keepsSchedule_countSeal (length : Nat) : KeepsSchedule s (countSeal h length s) := .of_eq rfl

theorem keepsSchedule_ownerSeal : KeepsSchedule s (ownerSeal h l s).1 := by
  unfold ownerSeal
  dsimp only
  split
  · exact .refl s
  split
  · exact .refl s
  next m _ =>
  split
  · exact .refl s
  · rw [accept_fst]
    have hreleased := (keepsSchedule_sealMessage s m).trans (keepsSchedule_release m _)
    have hcounted := hreleased.trans (keepsSchedule_countSeal h _ (s.messages.read m).length)
    exact hcounted.trans (keepsSchedule_endTurnOf h _)

theorem keepsSchedule_ownerAbort : KeepsSchedule s (ownerAbort h l s).1 := by
  unfold ownerAbort
  split
  · exact .refl s
  split
  · exact .refl s
  · exact keepsSchedule_abortMessage _ s

theorem keepsSchedule_ownerSkip : KeepsSchedule s (ownerSkip h l s).1 := by
  unfold ownerSkip
  split
  · exact .refl s
  split
  · exact .refl s
  · exact keepsSchedule_removeEntry h _ s

theorem keepsSchedule_answerTake (r : Request) : KeepsSchedule s (answerTake h r s) := by
  rw [answerTake_withLinks]
  exact .of_eq rfl

theorem keepsSchedule_commitTake (c : Commit) : KeepsSchedule s (commitTake h c s) := by
  unfold commitTake
  split
  · next e count last _ =>
    have hmoved : KeepsSchedule s (s.modEntry e (fun x => { x with offset := x.offset + count })) := .of_eq rfl
    dsimp only
    split
    · exact (hmoved.trans (keepsSchedule_removeEntry h e _)).trans (.of_eq rfl)
    · exact hmoved
  · exact keepsSchedule_removeEntry h _ s
  · exact .refl s

theorem keepsSchedule_commitFetchNotice (c : Commit) : KeepsSchedule s (commitFetchNotice h c s) := by
  unfold commitFetchNotice
  split
  · exact .of_eq rfl
  · exact .refl s

theorem keepsSchedule_commitReadCounter (c : Commit) : KeepsSchedule s (commitReadCounter h c s) := by
  unfold commitReadCounter
  split
  · exact .of_eq rfl
  · exact .refl s

theorem keepsSchedule_voidRead (p : Option PendingResult) : KeepsSchedule s (voidRead p s) := by
  rw [voidRead_eq]
  exact .of_eq rfl

end

/-! ## The shared forms of a command -/

theorem keepsSchedule_linkBlind (s : State) : LinkBlind (KeepsSchedule s) := fun _ _ hk => hk.trans (.of_eq rfl)

section
variable {s t : State} {h : HostId}

theorem keepsSchedule_of_withLinks (ht : t = s.withLinks t.links) : KeepsSchedule s t :=
  (keepsSchedule_linkBlind s).of_withLinks (.refl s) ht

theorem keepsSchedule_endRequest {which : Request → Bool} {owner : Link → State → State × Reply}
    (ht : endRequest h which owner s = .next t) (ho : ∀ l u, KeepsSchedule u (owner l u).1) : KeepsSchedule s t :=
  (keepsSchedule_linkBlind s).endRequest (.refl s) ht fun l u hu => hu.trans (ho l u)

theorem keepsSchedule_endRead {k : Kind} {owner : Commit → State → State} (ht : endRead h k owner s = .next t)
    (ho : ∀ c u, KeepsSchedule u (owner c u)) : KeepsSchedule s t :=
  (keepsSchedule_linkBlind s).endRead (.refl s) ht fun c u hu => hu.trans (ho c u)

/-- A good header renews a lease and is answered (R134). -/
theorem keepsSchedule_headerEnd {b : Byte} {which : Request → Bool} {answer : Request → State → State}
    (ht : headerEnd h b true which (fun r u => answer r (renewLease h u)) s = .next t)
    (ha : ∀ r u, KeepsSchedule u (answer r u)) : KeepsSchedule s t :=
  (keepsSchedule_linkBlind s).headerEnd (.refl s) ht fun r u hu =>
    (hu.trans (keepsSchedule_renewLease h u)).trans (ha r _)

theorem keepsSchedule_answerKind (r : Request) (u : State) : KeepsSchedule u (answerKind h r u) :=
  (keepsSchedule_linkBlind u).answerKind (fun _ => keepsSchedule_answerTake h u r) (.refl u)

/-- A SET of a host's own parameter. -/
theorem keepsSchedule_setOwn {which : Request → Bool} {inRange : Nat → Bool} {store : Word16 → State → State}
    (ht : endRequest h which (ownerSetOwn h inRange store) s = .next t)
    (hstore : ∀ b u, KeepsSchedule u (store b u)) : KeepsSchedule s t :=
  keepsSchedule_endRequest ht
    fun l u => ownerSetOwn_keeps (P := KeepsSchedule u) (fun b v hv => hv.trans (hstore b v)) (.refl u) h inRange l

/-- A SET of an exchange-wide parameter. -/
theorem keepsSchedule_setShared {which : Request → Bool} {inRange : Nat → Bool} {store : Word16 → State → State}
    (ht : endRequest h which (ownerSetShared h inRange store) s = .next t)
    (hstore : ∀ b u, KeepsSchedule u (store b u)) : KeepsSchedule s t :=
  keepsSchedule_endRequest ht
    fun l u => ownerSetShared_keeps (P := KeepsSchedule u) (fun b v hv => hv.trans (hstore b v)) (.refl u) h inRange l

end

/-! ## Reset, time and the expiries -/

section
variable {s t : State} {h : HostId}

theorem keepsSchedule_deviceReset (ht : execDeviceReset s = .next t) : KeepsSchedule s t := by
  cases ht
  constructor
  · intro _
    refine ⟨fun _ => ⟨rfl, rfl⟩, fun hne => absurd rfl hne, ?_, ?_⟩ <;> simp [State.reset, Turn.holder]
  · intro _
    refine ⟨?_, ?_, ?_⟩ <;> simp [State.reset, State.isJoined, Member.reset, Turn.deadline]

/-- The time begins at 0, which is behind no deadline. -/
theorem keepsSchedule_resetRelease (ht : execResetRelease s = .next t) : KeepsSchedule s t := by
  unfold execResetRelease at ht
  split at ht <;> cases ht
  exact ⟨id, fun _ => ⟨fun _ _ _ _ => Nat.zero_le _, fun _ _ => Nat.zero_le _, fun _ _ => Nat.zero_le _⟩⟩

/-- A millisecond begins when no expiry of the one before is left, so it passes no deadline. -/
theorem keepsSchedule_timeStep (ht : execMillisecondTimeStep s = .next t) : KeepsSchedule s t := by
  obtain ⟨-, ho⟩ | ⟨-, -, ho⟩ | ⟨-, hdue, ho⟩ := execMillisecondTimeStep_cases s
  · rw [next_eq_of_eq ho ht]
    exact .refl s
  · cases ho.symm.trans ht
  rw [next_eq_of_eq ho ht]
  have hnone : ¬ ((∃ h, s.leaseDue h = true) ∨ s.turnDue = true ∨ s.voteDue = true) := fun hd => by
    simp [(State.expiryDue_eq_true_iff s).2 hd] at hdue
  simp only [State.leaseDue_eq_true_iff, State.turnDue_eq_true_iff, State.voteDue_eq_true_iff] at hnone
  refine ⟨id, fun _ => ⟨fun g d hj hd => ?_, fun d hd => ?_, fun v hv => ?_⟩⟩ <;>
    refine Nat.lt_of_not_le fun hle => hnone ?_
  · exact .inl ⟨g, hj, d, hd, hle⟩
  · exact .inr (.inl ⟨d, hd, hle⟩)
  · exact .inr (.inr ⟨v, hv, hle⟩)

theorem keepsSchedule_leaseExpiry (ht : execLeaseExpiry h s = .next t) : KeepsSchedule s t := by
  obtain ⟨-, ho⟩ | ⟨-, ho⟩ := execLeaseExpiry_cases h s <;> rw [next_eq_of_eq ho ht]
  · exact keepsSchedule_teardown h _ _ s
  · exact .refl s

theorem keepsSchedule_turnExpiry (ht : execTurnExpiry s = .next t) : KeepsSchedule s t := by
  obtain ⟨-, ho⟩ | ⟨-, g, d, -, ho⟩ | ⟨-, g, d, -, ho⟩ := execTurnExpiry_cases s <;> rw [next_eq_of_eq ho ht]
  · exact .refl s
  · exact (keepsSchedule_post g _ s).trans (keepsSchedule_endTurn _)
  · exact keepsSchedule_endTurn s

theorem keepsSchedule_voteDeadline (ht : execVoteDeadline s = .next t) : KeepsSchedule s t := by
  obtain ⟨-, ho⟩ | ⟨-, ho⟩ := execVoteDeadline_cases s <;> rw [next_eq_of_eq ho ht]
  · exact (keepsSchedule_voteClosed s).trans (keepsSchedule_postAll _ _)
  · exact .refl s

theorem keepsSchedule_transactionVoid (ht : execTransactionVoid h s = .next t) : KeepsSchedule s t := by
  unfold execTransactionVoid at ht
  dsimp only at ht
  split at ht
  · cases ht
    have hclosed : KeepsSchedule s (closeTransaction h s) := .of_eq (by simp [State.schedule])
    have hvoided := hclosed.trans (keepsSchedule_voidRead _ (s.links.read h).pendingResult)
    exact hvoided.trans (.of_eq (by simp [State.schedule]))
  · exact (keepsSchedule_linkBlind s).deselectAfterEvent (.refl s) ht

end

/-! ## The step -/

/-- Every command keeps the turn record in order, and leaves no deadline behind the time. -/
theorem keepsSchedule_exec {c : Instr} {s t : State} (ht : exec c s = .next t) : KeepsSchedule s t := by
  cases c with
  | deviceReset => exact keepsSchedule_deviceReset ht
  | selAsserted h => exact keepsSchedule_of_withLinks (execSelAsserted_withLinks ht)
  | headerGoodCheck h b =>
    rw [exec, execHeaderGoodCheck] at ht
    exact keepsSchedule_headerEnd ht fun r u => keepsSchedule_answerKind r u
  | headerBadCheck h b =>
    rw [exec, execHeaderBadCheck] at ht
    exact (keepsSchedule_linkBlind s).headerEnd (.refl s) ht fun r u hu => hu.trans (.of_eq (by simp [State.schedule]))
  | deselectInDiscard h => exact (keepsSchedule_linkBlind s).deselectAfterEvent (.refl s) ht
  | transactionVoid h => exact keepsSchedule_transactionVoid ht
  | unknownRequest h =>
    rw [exec, execUnknownRequest] at ht
    exact keepsSchedule_endRequest ht fun _ u => .refl u
  | join h =>
    rw [exec, execJoin] at ht
    exact keepsSchedule_endRequest ht (keepsSchedule_ownerJoin h)
  | leave h =>
    rw [exec, execLeave] at ht
    exact keepsSchedule_endRequest ht (keepsSchedule_ownerLeave h)
  | setLeasePeriod h =>
    rw [exec, execSetLeasePeriod] at ht
    exact keepsSchedule_setOwn ht fun b u => keepsSchedule_storeLease h u b
  | setAttentionMask h =>
    rw [exec, execSetAttentionMask] at ht
    exact keepsSchedule_setOwn ht fun _ u => keepsSchedule_modMember_of_same h u fun _ => ⟨rfl, rfl⟩
  | setCreditThreshold h =>
    rw [exec, execSetCreditThreshold] at ht
    exact keepsSchedule_setOwn ht fun b u => keepsSchedule_storeThreshold h u b
  | setReserveThreshold h =>
    rw [exec, execSetReserveThreshold] at ht
    exact keepsSchedule_setShared ht fun b u => keepsSchedule_storeReserve u b
  | setTurnWindow h =>
    rw [exec, execSetTurnWindow] at ht
    exact keepsSchedule_setShared ht fun _ _ => .of_eq rfl
  | setVoteWindow h =>
    rw [exec, execSetVoteWindow] at ht
    exact keepsSchedule_setShared ht fun _ _ => .of_eq rfl
  | setPrecedence h =>
    rw [exec, execSetPrecedence] at ht
    exact keepsSchedule_setShared ht fun _ _ => .of_eq rfl
  | setQuotaCeiling h =>
    rw [exec, execSetQuotaCeiling] at ht
    exact keepsSchedule_setShared ht fun _ _ => .of_eq rfl
  | get h b =>
    rw [exec, execGet] at ht
    exact keepsSchedule_headerEnd ht fun r u => keepsSchedule_of_withLinks (answerGet_withLinks h r u)
  | voteClear h =>
    rw [exec, execVoteClear] at ht
    exact keepsSchedule_endRequest ht (keepsSchedule_ownerVoteClear h)
  | ack h =>
    rw [exec, execAck] at ht
    exact keepsSchedule_endRequest ht (keepsSchedule_ownerAck h)
  | fetchNotice h b =>
    rw [exec, execFetchNotice] at ht
    exact keepsSchedule_headerEnd ht fun r u => keepsSchedule_of_withLinks (answerFetchNotice_withLinks h r u)
  | fetchNoticeCommit h =>
    rw [exec, execFetchNoticeCommit] at ht
    exact keepsSchedule_endRead ht fun c u => keepsSchedule_commitFetchNotice h u c
  | readCounter h b =>
    rw [exec, execReadCounter] at ht
    exact keepsSchedule_headerEnd ht fun r u => keepsSchedule_of_withLinks (answerReadCounter_withLinks h r u)
  | readCounterCommit h =>
    rw [exec, execReadCounterCommit] at ht
    exact keepsSchedule_endRead ht fun c u => keepsSchedule_commitReadCounter h u c
  | openChannel h =>
    rw [exec, execOpenChannel] at ht
    exact keepsSchedule_endRequest ht (keepsSchedule_ownerOpenChannel h)
  | closeChannel h =>
    rw [exec, execCloseChannel] at ht
    exact keepsSchedule_endRequest ht (keepsSchedule_ownerCloseChannel h)
  | findChannel h b =>
    rw [exec, execFindChannel] at ht
    exact keepsSchedule_headerEnd ht fun r u => keepsSchedule_of_withLinks (answerFindChannel_withLinks h r u)
  | subscribe h =>
    rw [exec, execSubscribe] at ht
    exact keepsSchedule_endRequest ht (keepsSchedule_ownerSubscribe h)
  | unsubscribe h =>
    rw [exec, execUnsubscribe] at ht
    exact keepsSchedule_endRequest ht (keepsSchedule_ownerUnsubscribe h)
  | suspend h =>
    rw [exec, execSuspend] at ht
    exact keepsSchedule_endRequest ht fun l u => keepsSchedule_ownerRest h l u _
  | resume h =>
    rw [exec, execResume] at ht
    exact keepsSchedule_endRequest ht fun l u => keepsSchedule_ownerRest h l u _
  | begin h =>
    rw [exec, execBegin] at ht
    exact keepsSchedule_endRequest ht (keepsSchedule_ownerBegin h)
  | put h =>
    rw [exec, execPut] at ht
    exact keepsSchedule_endRequest ht (keepsSchedule_ownerPut h)
  | sealMsg h =>
    rw [exec, execSeal] at ht
    exact keepsSchedule_endRequest ht (keepsSchedule_ownerSeal h)
  | abort h =>
    rw [exec, execAbort] at ht
    exact keepsSchedule_endRequest ht (keepsSchedule_ownerAbort h)
  | take h b =>
    rw [exec, execTake] at ht
    exact keepsSchedule_headerEnd ht fun r u => keepsSchedule_answerTake h u r
  | takeCommit h =>
    rw [exec, execTakeCommit] at ht
    exact keepsSchedule_endRead ht fun c u => keepsSchedule_commitTake h u c
  | skip h =>
    rw [exec, execSkip] at ht
    exact keepsSchedule_endRequest ht (keepsSchedule_ownerSkip h)
  | leaseExpiry h => exact keepsSchedule_leaseExpiry ht
  | turnExpiry => exact keepsSchedule_turnExpiry ht
  | voteDeadline => exact keepsSchedule_voteDeadline ht
  | headerByteArrival h b => exact keepsSchedule_of_withLinks (execHeaderByteArrival_withLinks ht)
  | payloadByteArrival h b => exact keepsSchedule_of_withLinks (execPayloadByteArrival_withLinks ht)
  | responseByteArrival h => exact keepsSchedule_of_withLinks (execResponseByteArrival_withLinks ht)
  | selectSeen h => exact keepsSchedule_of_withLinks (execSelectSeen_withLinks ht)
  | resetRelease => exact keepsSchedule_resetRelease ht
  | millisecondTimeStep => exact keepsSchedule_timeStep ht
  | getCommit h =>
    rw [exec, execGetCommit] at ht
    exact keepsSchedule_endRead ht fun _ u => .refl u
  | findChannelCommit h =>
    rw [exec, execFindChannelCommit] at ht
    exact keepsSchedule_endRead ht fun _ u => .refl u
  | setReadOnlyValue h =>
    rw [exec, execSetReadOnlyValue] at ht
    exact keepsSchedule_endRequest ht fun _ u => .refl u

/-- A step is the command at the front, or nothing; neither the laws nor the command look at the queue. -/
theorem keepsSchedule_step {s t : State} (ht : step s = .next t) : KeepsSchedule s t := by
  unfold step at ht
  split at ht
  · cases ht
    exact .refl s
  · next c rest _ => exact .trans (t := { s with pending := rest }) (.of_eq rfl) (keepsSchedule_exec ht)

/-- Settles O56: the turn passes to JOINED hosts alone, and a host that departs has neither turn nor claim. -/
theorem stepKeepsTurnRecord : Obligations.StepKeepsTurnRecord := fun _ _ hl ht => (keepsSchedule_step ht).turn hl

/-! ## The expiries -/

section
variable {s : State}

theorem execTurnExpiry_of_granted {g : HostId} {d : Nat} (ht : s.turn = .granted g d) (hd : d ≤ s.now) :
    execTurnExpiry s = .next (State.turnPassed (s.told g .turnMissed)) := by
  have hdue : s.turnDue = true := (State.turnDue_eq_true_iff s).2 ⟨d, by rw [ht]; rfl, hd⟩
  have htold : post g .turnMissed s = s.told g .turnMissed := post_eq g _ s
  simp [execTurnExpiry, hdue, ht, endTurn_eq_turnPassed, htold]

theorem execTurnExpiry_of_inUse {g : HostId} {d : Nat} (ht : s.turn = .inUse g d) (hd : d ≤ s.now) :
    execTurnExpiry s = .next s.turnPassed := by
  have hdue : s.turnDue = true := (State.turnDue_eq_true_iff s).2 ⟨d, by rw [ht]; rfl, hd⟩
  simp [execTurnExpiry, hdue, ht, endTurn_eq_turnPassed]

theorem turnPassed_of_none (hn : s.nextClaimant = none) : s.turnPassed = { s with turn := .none } := by
  rw [State.turnPassed, hn]

theorem turnPassed_of_some {n : HostId} (hn : s.nextClaimant = some n) : s.turnPassed =
    { s with
      turn := .granted n (s.now + s.params.turnWindow), claimants := HostSet.erase s.claimants n
      desks := s.desks.write n (s.desks.read n).turnLatched } := by
  rw [State.turnPassed, hn]

theorem told_nextClaimant (s : State) (g : HostId) (n : Notice) : (s.told g n).nextClaimant = s.nextClaimant := by
  unfold State.told
  split <;> rfl

theorem told_eq (s : State) (g : HostId) (n : Notice) : s.told g n =
    { s with desks := if s.isJoined g = true then s.desks.write g ((s.desks.read g).posted n) else s.desks } := by
  unfold State.told
  split <;> rfl

theorem told_desks (s : State) (g : HostId) (n : Notice) (h : HostId) : (s.told g n).desks.read h =
    if h = g ∧ s.isJoined g = true then (s.desks.read g).posted n else s.desks.read h := by
  rw [told_eq]
  cases s.isJoined g <;> simp [Table.read_write]

theorem execTurnExpiry_of_not_due (hd : ∀ d, s.turn.deadline = some d → s.now < d) : execTurnExpiry s = .next s := by
  have hdue : s.turnDue = false := Bool.eq_false_of_not_eq_true fun hdue => by
    obtain ⟨d, ht, hle⟩ := (State.turnDue_eq_true_iff s).1 hdue
    exact Nat.not_lt.2 hle (hd d ht)
  simp [execTurnExpiry, hdue]

theorem execVoteDeadline_of_not_due (hd : ∀ v, s.vote = some v → s.now < v.deadline) :
    execVoteDeadline s = .next s := by
  have hdue : s.voteDue = false := Bool.eq_false_of_not_eq_true fun hdue => by
    obtain ⟨v, hv, hle⟩ := (State.voteDue_eq_true_iff s).1 hdue
    exact Nat.not_lt.2 hle (hd v hv)
  simp [execVoteDeadline, hdue]

theorem execVoteDeadline_of_due {v : Vote} (hv : s.vote = some v) (hd : v.deadline ≤ s.now) :
    execVoteDeadline s = .next (postAll .voteFailed { s with vote := none }) := by
  simp [execVoteDeadline, (State.voteDue_eq_true_iff s).2 ⟨v, hv, hd⟩]

theorem execLeaseExpiry_of_not_due {h : HostId} (hd : ∀ d, (s.members.read h).leaseDeadline = some d → s.now < d) :
    execLeaseExpiry h s = .next s := by
  have hdue : s.leaseDue h = false := Bool.eq_false_of_not_eq_true fun hdue => by
    obtain ⟨-, d, hl, hle⟩ := (State.leaseDue_eq_true_iff s h).1 hdue
    exact Nat.not_lt.2 hle (hd d hl)
  simp [execLeaseExpiry, hdue]

end

/-- Settles O28: each expiry by its deadline, and the deadlines through a step. -/
theorem expiriesActWhenReached : Obligations.ExpiriesActWhenReached := by
  refine ⟨fun s g d ht hd hn => ?_, fun s g n d ht hd hn => ?_, fun s g d ht hd hn => ?_, fun s g n d ht hd hn => ?_,
    fun s v hv hd => ?_, fun s h => ⟨execTurnExpiry_of_not_due, execVoteDeadline_of_not_due,
      execLeaseExpiry_of_not_due, fun t hl ht => (keepsSchedule_step ht).deadlines hl⟩⟩
  · rw [exec, execTurnExpiry_of_granted ht hd, turnPassed_of_none ((told_nextClaimant s g _).trans hn), told_eq]
  · rw [exec, execTurnExpiry_of_granted ht hd, turnPassed_of_some ((told_nextClaimant s g _).trans hn)]
    refine ⟨_, rfl, ?_, fun h => ?_⟩
    · rw [told_eq]
    · simp only [Table.read_write, told_desks]
      split
      · next hn => rw [hn]
      · rfl
  · rw [exec, execTurnExpiry_of_inUse ht hd, turnPassed_of_none hn]
  · rw [exec, execTurnExpiry_of_inUse ht hd, turnPassed_of_some hn]
  · have htold := toldAll_postAll .voteFailed { s with vote := none }
    exact ⟨_, execVoteDeadline_of_due hv hd, htold⟩

end Sys2Proof.Machine
end

section
/-! SUPPORT. The framers through a step: what a framer may become, and what each command makes of the links (R127 to
R129, R134 to R139). -/

namespace Sys2Proof.Machine

/-! ## One framer -/

/-- An IDLE framer without a pending result is in order, whatever else it holds (R128, R137). -/
theorem framerLaw_of_idle {l : Link} (hp : l.phase = .idle) (hr : l.pendingResult = none) : framerLaw l := by
  simp [framerLaw, hp, hr]

/-- A framer in DISCARD is in order under SEL and without a pending result (R133, R139). -/
theorem framerLaw_of_discard {l : Link} (hp : l.phase = .discard) (hs : l.sel = true) (hr : l.pendingResult = none) :
    framerLaw l := by
  simp [framerLaw, hp, hs, hr]

/-- A transaction voided by an event leaves its framer in order (R139). -/
theorem framerLaw_cutOff {l : Link} (hl : framerLaw l) : framerLaw l.cutOff := by
  unfold Link.cutOff
  split
  · next hp => exact framerLaw_of_discard rfl (hl.1 (by rcases hp with hp | hp | hp <;> simp [hp])) rfl
  · exact hl

theorem crc8_concat (bs : List Byte) (b : Byte) : crc8 (bs ++ [b]) = crcByte (crc8 bs) b := by
  rw [crc8, List.foldl_append]
  rfl

/-- A header byte before the 12th keeps the CRC register that of the header (R132). -/
theorem framerLaw_captured {l : Link} {b : Byte} (hl : framerLaw l) (hp : l.phase = .header)
    (hlen : l.header.length < 11) : framerLaw { l with header := l.header ++ [b], crc := crcByte l.crc b } := by
  obtain ⟨hsel, hheader, -, -, hnone, hvoid⟩ := hl
  obtain ⟨-, hcrc, hpayload⟩ := hheader hp
  refine ⟨hsel, fun _ => ⟨?_, ?_, hpayload⟩, ?_, ?_, hnone, hvoid⟩
  · simpa using hlen
  · rw [crc8_concat, hcrc]
  · simp [hp]
  · simp [hp]

/-- A payload byte moves from those expected to those stored (R136). -/
theorem framerLaw_stored {l : Link} {b : Byte} (hl : framerLaw l) (hp : l.phase = .payloadIn)
    (hr : l.remaining ≠ 0) : framerLaw { l with payload := l.payload ++ [b], remaining := l.remaining - 1 } := by
  obtain ⟨hsel, -, hpayload, -, hnone, hvoid⟩ := hl
  obtain ⟨hlen, hsum⟩ := hpayload hp
  refine ⟨hsel, by simp [hp], fun _ => ⟨hlen, ?_⟩, by simp [hp], hnone, hvoid⟩
  show (l.payload ++ [b]).length + (l.remaining - 1) = l.request.payloadLength
  rw [List.length_append, List.length_singleton]
  omega

/-- A response byte shifted out is one less to send (R136). -/
theorem framerLaw_shifted {l : Link} (hl : framerLaw l) (hp : l.phase = .responseOut) :
    framerLaw { l with remaining := l.remaining - 1 } := by
  obtain ⟨hsel, -, -, hresponse, hnone, hvoid⟩ := hl
  obtain ⟨hlen, p, hpending, hremaining, hmax⟩ := hresponse hp
  exact ⟨hsel, by simp [hp], by simp [hp],
    fun _ => ⟨hlen, p, hpending, (Nat.sub_le _ _).trans hremaining, hmax⟩, hnone, hvoid⟩

section
variable {l : Link} {b : Byte} {good : Bool} (hl : framerLaw l) (hc : l.completesHeader b good = true)
include hc

theorem completesHeader_phase : l.phase = .header ∧ l.header.length = 11 := by
  simp only [Link.completesHeader, Bool.and_eq_true, beq_iff_eq] at hc
  exact hc.1

include hl

/-- A whole header whose request is answered by `p` (R134, R135). -/
theorem framerLaw_answered {p : PendingResult} (hmax : p.response.length ≤ 76) :
    framerLaw { l.headed b with phase := .responseOut, remaining := p.response.length, pendingResult := some p } := by
  obtain ⟨hp, hlen⟩ := completesHeader_phase hc
  obtain ⟨hsel, -, -, -, -, hvoid⟩ := hl
  refine ⟨fun _ => hsel (by simp [hp]), nofun, nofun, fun _ => ⟨?_, p, rfl, le_rfl, hmax⟩, fun h => absurd rfl h,
    fun hv => ?_⟩
  · simp [Link.headed, hlen]
  · simpa [hp] using hvoid hv

/-- A whole header whose request awaits its payload (R134). -/
theorem framerLaw_awaiting :
    framerLaw { l.headed b with
      phase := .payloadIn, remaining := (Request.ofHeader (l.header ++ [b])).payloadLength } := by
  obtain ⟨hp, hlen⟩ := completesHeader_phase hc
  obtain ⟨hsel, hheader, -, -, hnone, hvoid⟩ := hl
  refine ⟨fun _ => hsel (by simp [hp]), nofun, fun _ => ⟨?_, ?_⟩, nofun, fun _ => hnone (by simp [hp]), fun hv => ?_⟩
  · simp [Link.headed, hlen]
  · simp [Link.headed, (hheader hp).2.2, Link.request]
  · simpa [hp] using hvoid hv

end

/-! ## The links -/

section
variable {s t : State} (hl : linkLaw s)
include hl

theorem linkLaw_of_links_eq (ht : t.links = s.links) : linkLaw t := fun h => ht ▸ hl h

/-- One link changed. -/
theorem linkLaw_update {h : HostId} {f : Link → Link} (ht : t.links = s.links.update h f)
    (hf : framerLaw (f (s.links.read h))) : linkLaw t := by
  intro g
  rw [ht, Table.read_update]
  split
  · exact hf
  · exact hl g

/-- Every transaction in flight voided (R163). -/
theorem linkLaw_all_cutOff (ht : t.links = s.links.mapAll Link.cutOff) : linkLaw t := by
  intro g
  rw [ht, Table.read_mapAll]
  exact framerLaw_cutOff (hl g)

/-- The judgement of a vote leaves the links, or voids every transaction (R162, R163). -/
theorem linkLaw_judgeVote : linkLaw (judgeVote s) := by
  obtain hv | hv := judgeVote_withLinks s <;> have hlinks := congrArg State.links (hv s.links)
  · exact linkLaw_of_links_eq hl hlinks
  · exact linkLaw_all_cutOff hl hlinks

/-- A teardown voids the host's transaction, or every one (R139, R154). -/
theorem linkLaw_teardown (h : HostId) (final : Membership) (n : Notice) : linkLaw (teardown h final n s) := by
  obtain hv | hv := teardown_withLinks h final n s <;> have hlinks := congrArg State.links (hv s.links)
  · exact linkLaw_update hl hlinks (framerLaw_cutOff (hl h))
  · exact linkLaw_all_cutOff hl hlinks

theorem linkLaw_setLast (h : HostId) (r : Reply) (b : Byte) : linkLaw (setLast h r b s) :=
  linkLaw_update (f := fun l => { l with lastResult := r.result, lastSerial := b, lastValue := r.value }) hl rfl (hl h)

theorem linkLaw_linkFault (h : HostId) (f : LinkFault) (b : Byte) : linkLaw (linkFault h f b s) :=
  linkLaw_update (f := fun l => { l with lastFault := f, faultSerial := b }) hl rfl (hl h)

theorem linkLaw_closeTransaction (h : HostId) : linkLaw (closeTransaction h s) :=
  linkLaw_update
    (f := fun l => { l with sel := false, selectSeen := true, phase := .idle, payload := [], pendingResult := none })
    hl (by rw [closeTransaction_eq]; rfl) (framerLaw_of_idle rfl rfl)

/-- A deselect of a link without a pending result. -/
theorem linkLaw_deselect {h : HostId} (hr : (s.links.read h).phase ≠ .responseOut) : linkLaw (deselect h s) :=
  linkLaw_update (f := fun l => { l with sel := false, selectSeen := true, phase := .idle }) hl rfl
    (framerLaw_of_idle rfl ((hl h).2.2.2.2.1 hr))

/-! ## The shared forms of a command -/

theorem linkLaw_deselectAfterEvent {h : HostId} (ht : deselectAfterEvent h s = .next t) : linkLaw t := by
  obtain ⟨rfl, hp | ⟨hp, -⟩⟩ := deselectAfterEvent_cases ht <;> exact linkLaw_deselect hl (by simp [hp])

theorem linkLaw_endRequest {h : HostId} {which : Request → Bool} {owner : Link → State → State × Reply}
    (ht : endRequest h which owner s = .next t) (ho : ∀ l u, linkLaw u → linkLaw (owner l u).1) : linkLaw t := by
  obtain ⟨r, -, -, rfl⟩ | ht := endRequest_cases ht
  · exact linkLaw_setLast (ho _ _ (linkLaw_closeTransaction hl h)) h _ _
  · exact linkLaw_deselectAfterEvent hl ht

/-- A request whose owner leaves the links alone. -/
theorem linkLaw_endRequest_of_links {h : HostId} {which : Request → Bool} {owner : Link → State → State × Reply}
    (ht : endRequest h which owner s = .next t) (ho : ∀ l u, (owner l u).1.links = u.links) : linkLaw t :=
  linkLaw_endRequest hl ht fun l u hu => linkLaw_of_links_eq hu (ho l u)

/-- A SET of a host's own parameter, which no link holds. -/
theorem linkLaw_setOwn {h : HostId} {which : Request → Bool} {inRange : Nat → Bool} {store : Word16 → State → State}
    (ht : endRequest h which (ownerSetOwn h inRange store) s = .next t) (hs : ∀ b u, (store b u).links = u.links) :
    linkLaw t :=
  linkLaw_endRequest hl ht fun l _ hu =>
    ownerSetOwn_keeps (fun b _ hv => linkLaw_of_links_eq hv (hs b _)) hu h inRange l

/-- A SET of an exchange-wide parameter, which no link holds. -/
theorem linkLaw_setShared {h : HostId} {which : Request → Bool} {inRange : Nat → Bool} {store : Word16 → State → State}
    (ht : endRequest h which (ownerSetShared h inRange store) s = .next t) (hs : ∀ b u, (store b u).links = u.links) :
    linkLaw t :=
  linkLaw_endRequest hl ht fun l _ hu =>
    ownerSetShared_keeps (fun b _ hv => linkLaw_of_links_eq hv (hs b _)) hu h inRange l

theorem linkLaw_endRead {h : HostId} {k : Kind} {owner : Commit → State → State} (ht : endRead h k owner s = .next t)
    (ho : ∀ c u, (owner c u).links = u.links) : linkLaw t := by
  obtain ⟨p, -, rfl⟩ | ht := endRead_cases ht
  · exact linkLaw_setLast (linkLaw_of_links_eq (linkLaw_closeTransaction hl h) (ho _ _)) h _ _
  · exact linkLaw_deselectAfterEvent hl ht

end

/-! ## Headers -/

/-- What the answer to a good header makes of its link (R134, R135): a response of at most 76 bytes waits to be shifted
out, or the request's payload is awaited. -/
def Answers (h : HostId) (r : Request) (s t : State) : Prop :=
  (∃ p, p.response.length ≤ 76 ∧ t.links = (respond h p s).links)
    ∨ t.links = (awaitPayload h r.payloadLength s).links

/-- A good header's event: the link is captured whole and answered; the renewal of the lease leaves it alone. -/
theorem linkLaw_goodHeader {s t : State} {h : HostId} {b : Byte} {which : Request → Bool}
    {answer : Request → State → State} (hl : linkLaw s)
    (ht : headerEnd h b true which (fun r u => answer r (renewLease h u)) s = .next t)
    (ha : ∀ r u, Answers h r u (answer r u)) : linkLaw t := by
  obtain ⟨hc, -, rfl⟩ | rfl := headerEnd_cases ht
  · have hcaptured : (renewLease h (captureByte h b s)).links = s.links.update h (fun l => l.headed b) := by
      simp [captureByte, Link.headed]
    obtain ⟨p, hmax, ho⟩ | ho := ha (Request.ofHeader ((s.links.read h).header ++ [b]))
      (renewLease h (captureByte h b s))
    · refine linkLaw_update (f := fun l =>
        { l.headed b with phase := .responseOut, remaining := p.response.length, pendingResult := some p }) hl ?_
        (framerLaw_answered (hl h) hc hmax)
      rw [ho, respond, State.modLink_links, hcaptured, Table.update_update]
    · refine linkLaw_update (f := fun l =>
        { l.headed b with
          phase := .payloadIn
          remaining := (Request.ofHeader ((s.links.read h).header ++ [b])).payloadLength }) hl ?_
        (framerLaw_awaiting (hl h) hc)
      rw [ho, awaitPayload, State.modLink_links, hcaptured, Table.update_update]
  · exact hl

/-- A bad header's event: DISCARD and a link fault (R133). -/
theorem linkLaw_headerBadCheck {s t : State} {h : HostId} {b : Byte} (hl : linkLaw s)
    (ht : execHeaderBadCheck h b s = .next t) : linkLaw t := by
  obtain ⟨hc, -, rfl⟩ | rfl := headerEnd_cases ht
  · obtain ⟨hp, -⟩ := completesHeader_phase hc
    obtain ⟨hsel, -, -, -, hnone, -⟩ := hl h
    refine linkLaw_linkFault (linkLaw_update (f := fun l => { l.headed b with phase := .discard }) hl ?_
      (framerLaw_of_discard rfl (hsel (by simp [hp])) (hnone (by simp [hp])))) h _ _
    simp [captureByte, Link.headed]
  · exact hl

/-! ## The answers of the reads -/

theorem noticeRecord_length (n : Option Notice) (lost : Nat) : (noticeRecord n lost).length = 12 := by
  unfold noticeRecord
  split <;> rfl

theorem channelInfo_length (s : State) (o : Option ChanId) : (s.channelInfo o).length = 8 := by
  cases o <;> rfl

theorem takeDescriptor_count_le (m : Message) (e : Entry) (n : Nat) : (takeDescriptor m e n).count ≤ n := by
  simp only [takeDescriptor]
  split
  · exact Nat.min_le_left _ _
  · exact Nat.zero_le _

/-- A TAKE on an entry answers its descriptor and as many bytes as were asked for (R98). -/
theorem takeResult_length (s : State) (n : Nat) (e : EntryId) : (s.takeResult n e).response.length = 12 + n := by
  have hcount := takeDescriptor_count_le (s.messages.read (s.entries.read e).message) (s.entries.read e) n
  have hbytes : ∀ d : Descriptor, d.bytes.length = 12 := fun _ => rfl
  simp only [State.takeResult, State.readBytes, List.length_append, List.length_map, List.length_range,
    List.length_replicate, hbytes]
  omega

section
variable (h : HostId) (r : Request) (s : State)

theorem answers_get : Answers h r s (answerGet h r s) := by
  unfold answerGet
  split <;> exact .inl ⟨_, by simp [plainResponse, bytes32], rfl⟩

theorem answers_fetchNotice : Answers h r s (answerFetchNotice h r s) :=
  .inl ⟨_, by rw [noticeRecord_length]; omega, rfl⟩

theorem answers_readCounter : Answers h r s (answerReadCounter h r s) := by
  unfold answerReadCounter
  split <;> exact .inl ⟨_, by simp [plainResponse, bytes32], rfl⟩

theorem answers_findChannel : Answers h r s (answerFindChannel h r s) := by
  unfold answerFindChannel
  split <;> exact .inl ⟨_, by rw [plainResponse, channelInfo_length]; omega, rfl⟩

/-- A TAKE within range asks for at most 64 bytes after the 12 of its descriptor (R96). -/
theorem answers_take : Answers h r s (answerTake h r s) := by
  cases hj : s.isJoined h with
  | false =>
    rw [answerTake_notJoined hj]
    exact .inl ⟨_, by simp [plainResponse], rfl⟩
  | true =>
  cases hr : countInRange r.a with
  | false =>
    rw [answerTake_badCount hj hr]
    exact .inl ⟨_, by simp [plainResponse], rfl⟩
  | true =>
  obtain ⟨-, hmax⟩ := (countInRange_eq_true_iff r.a).1 hr
  cases hq : s.queues.read h with
  | nil =>
    rw [answerTake_empty hj hr hq]
    exact .inl ⟨_, by simp [plainResponse]; omega, rfl⟩
  | cons e rest =>
    rw [answerTake_head hj hr hq]
    refine .inl ⟨s.takeResult r.a.toNat e, by rw [takeResult_length]; omega, ?_⟩
    unfold answerTakeHead
    dsimp only
    split <;> rfl

theorem answers_kind : Answers h r s (answerKind h r s) := by
  unfold answerKind
  split
  · exact answers_get h r s
  · exact answers_fetchNotice h r s
  · exact answers_readCounter h r s
  · exact answers_findChannel h r s
  · exact answers_take h r s
  · exact .inr rfl

end

/-! ## What each request makes of the links -/

section
variable (h : HostId) (l : Link) (s : State)

theorem storeThreshold_links (b : Word16) : (storeThreshold h b s).links = s.links := by
  unfold storeThreshold
  dsimp only
  split <;> simp

theorem ownerAck_links : (ownerAck h l s).1.links = s.links := by
  unfold ownerAck
  dsimp only
  split <;> rfl

theorem ownerOpenChannel_links : (ownerOpenChannel h l s).1.links = s.links := by
  unfold ownerOpenChannel
  dsimp only
  repeat' split
  all_goals rfl

theorem closeChannel_links (c : ChanId) : (closeChannel c s).links = s.links := by
  have haborts : (closeAborts c s).links = s.links := foldl_keeps State.links _ _ _ (by simp [closeAbort])
  have hsubs : (closeSubscriptions c (closeAborts c s)).links = (closeAborts c s).links :=
    foldl_keeps State.links _ _ _ (by simp [closeSubscription])
  exact hsubs.trans haborts

theorem ownerCloseChannel_links : (ownerCloseChannel h l s).1.links = s.links := by
  unfold ownerCloseChannel
  dsimp only
  repeat' split
  all_goals simp [refuse, accept, closeChannel_links]

theorem ownerSubscribe_links : (ownerSubscribe h l s).1.links = s.links := by
  obtain ho | ⟨c, i, p, -, -, -, -, ho⟩ := ownerSubscribe_leaves h l s <;> rw [ho]
  rfl

theorem ownerUnsubscribe_links : (ownerUnsubscribe h l s).1.links = s.links := by
  obtain ⟨c, -, ho⟩ | ⟨-, i, -, ho⟩ := ownerUnsubscribe_cases h l s <;> rw [ho]
  · rfl
  · simp

theorem ownerRest_links (rest : SubState) : (ownerRest h rest l s).1.links = s.links := by
  obtain ⟨c, -, ho⟩ | ⟨-, i, -, ho⟩ := ownerRest_cases h rest l s <;> rw [ho] <;> rfl

theorem ownerBegin_links : (ownerBegin h l s).1.links = s.links := by
  have hstart : ∀ r i m u, (startMessage h r i m u).links = u.links := fun r i m u => by
    unfold startMessage
    dsimp only
    split <;> simp
  obtain ho | ho | ⟨i, m, -, ho⟩ := ownerBegin_cases h l s <;> rw [ho]
  · simp
  · simp [hstart]

theorem ownerPut_links : (ownerPut h l s).1.links = s.links := by
  unfold ownerPut
  dsimp only
  repeat' split
  all_goals simp [refuse, accept]

theorem ownerSeal_links : (ownerSeal h l s).1.links = s.links := by
  have hsealed : ∀ m u, (sealMessage m u).links = u.links := fun m u => by
    unfold sealMessage
    dsimp only
    split <;> simp
  unfold ownerSeal
  dsimp only
  repeat' split
  all_goals simp [refuse, accept, hsealed]

theorem ownerAbort_links : (ownerAbort h l s).1.links = s.links := by
  unfold ownerAbort
  repeat' split
  all_goals simp [refuse, accept]

theorem ownerSkip_links : (ownerSkip h l s).1.links = s.links := by
  unfold ownerSkip
  repeat' split
  all_goals simp [refuse, accept]

theorem commitTake_links (c : Commit) : (commitTake h c s).links = s.links := by
  unfold commitTake
  repeat' split
  all_goals simp

theorem commitFetchNotice_links (c : Commit) : (commitFetchNotice h c s).links = s.links := by
  unfold commitFetchNotice
  split <;> rfl

theorem commitReadCounter_links (c : Commit) : (commitReadCounter h c s).links = s.links := by
  unfold commitReadCounter
  split <;> rfl

variable {s} (hl : linkLaw s)
include hl

theorem linkLaw_ownerJoin : linkLaw (ownerJoin h l s).1 := by
  have hadmitted : linkLaw (postOthers h (.hostJoined h) (admitMember h l.request s)) :=
    linkLaw_of_links_eq hl (by simp [admitMember])
  unfold ownerJoin
  dsimp only
  split
  · exact hl
  split
  · exact hl
  · rw [accept_fst, tellVote]
    split
    · exact linkLaw_judgeVote (linkLaw_of_links_eq hadmitted (by simp))
    · exact hadmitted

theorem linkLaw_ownerLeave : linkLaw (ownerLeave h l s).1 := by
  unfold ownerLeave
  split
  · rw [accept_fst]
    exact linkLaw_teardown hl h _ _
  · exact hl

theorem linkLaw_ownerVoteClear : linkLaw (ownerVoteClear h l s).1 := by
  have hcast : (castVote h s).links = s.links := by
    unfold castVote
    split <;> simp
  unfold ownerVoteClear
  split
  · rw [accept_fst]
    exact linkLaw_judgeVote (linkLaw_of_links_eq hl hcast)
  · exact hl

end

/-! ## The events of a link, of RESET and of the time -/

section
variable {s t : State} {h : HostId} (hl : linkLaw s)
include hl

theorem linkLaw_selAsserted (ht : execSelAsserted h s = .next t) : linkLaw t := by
  unfold execSelAsserted at ht
  dsimp only at ht
  split at ht
  · cases ht
  split at ht <;> cases ht
  · refine linkLaw_update (f := fun l =>
      { l with
        sel := true, phase := .header, header := [], crc := 0, payload := [], pendingResult := none
        voidMark := false, statusCopy := s.statusBlock h }) hl rfl ?_
    simp [framerLaw, crc8]
  · exact linkLaw_update (f := fun l => { l with sel := true }) hl rfl ⟨fun _ => rfl, (hl h).2⟩

theorem linkLaw_headerByteArrival {b : Byte} (ht : execHeaderByteArrival h b s = .next t) : linkLaw t := by
  unfold execHeaderByteArrival at ht
  dsimp only at ht
  split at ht
  · next hp =>
    cases ht
    exact linkLaw_update (f := fun l => l.headed b) hl rfl (framerLaw_captured (hl h) hp.1 hp.2)
  · split at ht <;> cases ht
    exact hl

theorem linkLaw_payloadByteArrival {b : Byte} (ht : execPayloadByteArrival h b s = .next t) : linkLaw t := by
  unfold execPayloadByteArrival at ht
  dsimp only at ht
  split at ht
  · next hp =>
    split at ht <;> cases ht
    · exact hl
    · next hr =>
      exact linkLaw_update (f := fun l => { l with payload := l.payload ++ [b], remaining := l.remaining - 1 }) hl rfl
        (framerLaw_stored (hl h) hp hr)
  · split at ht <;> cases ht
    exact hl

theorem linkLaw_responseByteArrival (ht : execResponseByteArrival h s = .next t) : linkLaw t := by
  unfold execResponseByteArrival at ht
  dsimp only at ht
  split at ht
  · next hp =>
    split at ht <;> cases ht
    · exact hl
    · exact linkLaw_update (f := fun l => { l with remaining := l.remaining - 1 }) hl rfl
        (framerLaw_shifted (hl h) hp)
  · split at ht <;> cases ht
    exact hl

theorem linkLaw_selectSeen (ht : execSelectSeen h s = .next t) : linkLaw t := by
  unfold execSelectSeen at ht
  dsimp only at ht
  split at ht <;> cases ht
  next hp => exact linkLaw_deselect hl (by simp [hp.1])

theorem linkLaw_transactionVoid (ht : execTransactionVoid h s = .next t) : linkLaw t := by
  unfold execTransactionVoid at ht
  dsimp only at ht
  split at ht
  · cases ht
    have hvoided := linkLaw_of_links_eq (t := voidRead (s.links.read h).pendingResult (closeTransaction h s))
      (linkLaw_closeTransaction hl h) (by rw [voidRead_eq])
    exact linkLaw_linkFault (linkLaw_setLast hvoided h _ _) h _ _
  · exact linkLaw_deselectAfterEvent hl ht

omit hl in
/-- A device reset leaves every framer IDLE (R128, R165). -/
theorem linkLaw_deviceReset (ht : execDeviceReset s = .next t) : linkLaw t := by
  cases ht
  intro g
  simp only [Table.read_mapAll]
  exact framerLaw_of_idle rfl rfl

/-- The end of a reset sets the select-seen flags, which the law does not look at. -/
theorem linkLaw_resetRelease (ht : execResetRelease s = .next t) : linkLaw t := by
  unfold execResetRelease at ht
  split at ht <;> cases ht
  intro g
  simp only [Table.read_mapAll]
  exact hl g

theorem linkLaw_timeStep (ht : execMillisecondTimeStep s = .next t) : linkLaw t := by
  obtain ⟨-, ho⟩ | ⟨-, -, ho⟩ | ⟨-, -, ho⟩ := execMillisecondTimeStep_cases s
  · exact next_eq_of_eq ho ht ▸ hl
  · cases ho.symm.trans ht
  · exact next_eq_of_eq ho ht ▸ hl

theorem linkLaw_leaseExpiry (ht : execLeaseExpiry h s = .next t) : linkLaw t := by
  obtain ⟨-, ho⟩ | ⟨-, ho⟩ := execLeaseExpiry_cases h s <;> rw [next_eq_of_eq ho ht]
  · exact linkLaw_teardown hl h _ _
  · exact hl

theorem linkLaw_turnExpiry (ht : execTurnExpiry s = .next t) : linkLaw t := by
  refine linkLaw_of_links_eq hl ?_
  obtain ⟨-, ho⟩ | ⟨-, g, d, -, ho⟩ | ⟨-, g, d, -, ho⟩ := execTurnExpiry_cases s <;> rw [next_eq_of_eq ho ht]
  · simp
  · simp

theorem linkLaw_voteDeadline (ht : execVoteDeadline s = .next t) : linkLaw t := by
  refine linkLaw_of_links_eq hl ?_
  obtain ⟨-, ho⟩ | ⟨-, ho⟩ := execVoteDeadline_cases s <;> rw [next_eq_of_eq ho ht]
  simp

end

/-! ## The step -/

/-- Every command keeps every framer in order. -/
theorem linkLaw_exec {c : Instr} {s t : State} (hl : linkLaw s) (ht : exec c s = .next t) : linkLaw t := by
  cases c with
  | deviceReset => exact linkLaw_deviceReset ht
  | selAsserted h => exact linkLaw_selAsserted hl ht
  | headerGoodCheck h b =>
    rw [exec, execHeaderGoodCheck] at ht
    exact linkLaw_goodHeader hl ht (answers_kind h)
  | headerBadCheck h b => exact linkLaw_headerBadCheck hl ht
  | deselectInDiscard h => exact linkLaw_deselectAfterEvent hl ht
  | transactionVoid h => exact linkLaw_transactionVoid hl ht
  | unknownRequest h =>
    rw [exec, execUnknownRequest] at ht
    exact linkLaw_endRequest_of_links hl ht fun _ _ => rfl
  | join h =>
    rw [exec, execJoin] at ht
    exact linkLaw_endRequest hl ht fun l _ hu => linkLaw_ownerJoin h l hu
  | leave h =>
    rw [exec, execLeave] at ht
    exact linkLaw_endRequest hl ht fun l _ hu => linkLaw_ownerLeave h l hu
  | setLeasePeriod h =>
    rw [exec, execSetLeasePeriod] at ht
    exact linkLaw_setOwn hl ht fun _ _ => rfl
  | setAttentionMask h =>
    rw [exec, execSetAttentionMask] at ht
    exact linkLaw_setOwn hl ht fun _ _ => rfl
  | setCreditThreshold h =>
    rw [exec, execSetCreditThreshold] at ht
    exact linkLaw_setOwn hl ht fun b u => storeThreshold_links h u b
  | setReserveThreshold h =>
    rw [exec, execSetReserveThreshold] at ht
    exact linkLaw_setShared hl ht fun _ _ => by simp
  | setTurnWindow h =>
    rw [exec, execSetTurnWindow] at ht
    exact linkLaw_setShared hl ht fun _ _ => rfl
  | setVoteWindow h =>
    rw [exec, execSetVoteWindow] at ht
    exact linkLaw_setShared hl ht fun _ _ => rfl
  | setPrecedence h =>
    rw [exec, execSetPrecedence] at ht
    exact linkLaw_setShared hl ht fun _ _ => rfl
  | setQuotaCeiling h =>
    rw [exec, execSetQuotaCeiling] at ht
    exact linkLaw_setShared hl ht fun _ _ => rfl
  | get h b =>
    rw [exec, execGet] at ht
    exact linkLaw_goodHeader hl ht (answers_get h)
  | voteClear h =>
    rw [exec, execVoteClear] at ht
    exact linkLaw_endRequest hl ht fun l _ hu => linkLaw_ownerVoteClear h l hu
  | ack h =>
    rw [exec, execAck] at ht
    exact linkLaw_endRequest_of_links hl ht (ownerAck_links h)
  | fetchNotice h b =>
    rw [exec, execFetchNotice] at ht
    exact linkLaw_goodHeader hl ht (answers_fetchNotice h)
  | fetchNoticeCommit h =>
    rw [exec, execFetchNoticeCommit] at ht
    exact linkLaw_endRead hl ht fun c u => commitFetchNotice_links h u c
  | readCounter h b =>
    rw [exec, execReadCounter] at ht
    exact linkLaw_goodHeader hl ht (answers_readCounter h)
  | readCounterCommit h =>
    rw [exec, execReadCounterCommit] at ht
    exact linkLaw_endRead hl ht fun c u => commitReadCounter_links h u c
  | openChannel h =>
    rw [exec, execOpenChannel] at ht
    exact linkLaw_endRequest_of_links hl ht (ownerOpenChannel_links h)
  | closeChannel h =>
    rw [exec, execCloseChannel] at ht
    exact linkLaw_endRequest_of_links hl ht (ownerCloseChannel_links h)
  | findChannel h b =>
    rw [exec, execFindChannel] at ht
    exact linkLaw_goodHeader hl ht (answers_findChannel h)
  | subscribe h =>
    rw [exec, execSubscribe] at ht
    exact linkLaw_endRequest_of_links hl ht (ownerSubscribe_links h)
  | unsubscribe h =>
    rw [exec, execUnsubscribe] at ht
    exact linkLaw_endRequest_of_links hl ht (ownerUnsubscribe_links h)
  | suspend h =>
    rw [exec, execSuspend] at ht
    exact linkLaw_endRequest_of_links hl ht fun l u => ownerRest_links h l u _
  | resume h =>
    rw [exec, execResume] at ht
    exact linkLaw_endRequest_of_links hl ht fun l u => ownerRest_links h l u _
  | begin h =>
    rw [exec, execBegin] at ht
    exact linkLaw_endRequest_of_links hl ht (ownerBegin_links h)
  | put h =>
    rw [exec, execPut] at ht
    exact linkLaw_endRequest_of_links hl ht (ownerPut_links h)
  | sealMsg h =>
    rw [exec, execSeal] at ht
    exact linkLaw_endRequest_of_links hl ht (ownerSeal_links h)
  | abort h =>
    rw [exec, execAbort] at ht
    exact linkLaw_endRequest_of_links hl ht (ownerAbort_links h)
  | take h b =>
    rw [exec, execTake] at ht
    exact linkLaw_goodHeader hl ht (answers_take h)
  | takeCommit h =>
    rw [exec, execTakeCommit] at ht
    exact linkLaw_endRead hl ht fun c u => commitTake_links h u c
  | skip h =>
    rw [exec, execSkip] at ht
    exact linkLaw_endRequest_of_links hl ht (ownerSkip_links h)
  | leaseExpiry h => exact linkLaw_leaseExpiry hl ht
  | turnExpiry => exact linkLaw_turnExpiry hl ht
  | voteDeadline => exact linkLaw_voteDeadline hl ht
  | headerByteArrival h b => exact linkLaw_headerByteArrival hl ht
  | payloadByteArrival h b => exact linkLaw_payloadByteArrival hl ht
  | responseByteArrival h => exact linkLaw_responseByteArrival hl ht
  | selectSeen h => exact linkLaw_selectSeen hl ht
  | resetRelease => exact linkLaw_resetRelease hl ht
  | millisecondTimeStep => exact linkLaw_timeStep hl ht
  | getCommit h =>
    rw [exec, execGetCommit] at ht
    exact linkLaw_endRead hl ht fun _ _ => rfl
  | findChannelCommit h =>
    rw [exec, execFindChannelCommit] at ht
    exact linkLaw_endRead hl ht fun _ _ => rfl
  | setReadOnlyValue h =>
    rw [exec, execSetReadOnlyValue] at ht
    exact linkLaw_endRequest_of_links hl ht fun _ _ => rfl

/-- Settles O53: a step is the command at the front, or nothing; the framers are the same for every queue. -/
theorem stepKeepsFramers : Obligations.StepKeepsFramers := by
  intro s t hl ht
  unfold step at ht
  split at ht
  · cases ht
    exact hl
  · next c rest _ => exact linkLaw_exec (linkLaw_of_links_eq (t := { s with pending := rest }) hl rfl) ht

end Sys2Proof.Machine
end

section
/-! SUPPORT. The check: the CRC-8 register is the remainder of the bitwise division (R132). -/

namespace Sys2Proof.Machine

/-- The remainder after one bit more of the dividend, generator x^8 + x^2 + x + 1. -/
def divideBit (r : Byte) (bit : Bool) : Byte := if r.msb != bit then (r <<< 1) ^^^ 0x07 else r <<< 1

/-- The bits of a byte, most significant first. -/
def bitsOf (b : Byte) : List Bool := (List.range 8).map (fun i => b.getLsbD (7 - i))

/-- A shift of the register takes the top bit of what was added to it into the division, and moves the rest up. -/
theorem crcShift_xor (r x : Byte) : crcShift (r ^^^ x) = divideBit r x.msb ^^^ (x <<< 1) := by
  rw [crcShift, divideBit, BitVec.msb_xor, BitVec.shiftLeft_xor_distrib]
  split
  · ac_rfl
  · rfl

theorem msb_shiftLeft (b : Byte) {k : Nat} (hk : k < 8) : (b <<< k).msb = b.getLsbD (7 - k) := by
  rw [BitVec.msb_eq_getLsbD_last, BitVec.getLsbD_shiftLeft]
  simp [show ¬ 7 < k by omega]

/-- After `k` shifts the top `k` bits of the byte have been divided in, and the others still stand in the register. -/
theorem iterate_crcShift_xor (r b : Byte) {k : Nat} (hk : k ≤ 8) :
    crcShift^[k] (r ^^^ b) =
      ((List.range k).map (fun i => b.getLsbD (7 - i))).foldl divideBit r ^^^ (b <<< k) := by
  induction k with
  | zero => simp
  | succ k ih =>
    rw [Function.iterate_succ_apply', ih (by omega), crcShift_xor, msb_shiftLeft b hk, List.range_succ, List.map_append,
      List.foldl_append, ← BitVec.shiftLeft_add]
    rfl

/-- A byte added to the register at once is divided in bit by bit. -/
theorem crcByte_eq_divideBits (r b : Byte) : crcByte r b = (bitsOf b).foldl divideBit r := by
  have hgone : b <<< 8 = 0#8 := BitVec.shiftLeft_eq_zero le_rfl
  have hall := iterate_crcShift_xor r b le_rfl
  rwa [hgone, BitVec.xor_zero] at hall

/-- Settles O11, byte by byte. -/
theorem checkIsPolynomialRemainder : Obligations.CheckIsPolynomialRemainder := by
  intro bs
  show bs.foldl crcByte 0 = (bs.flatMap bitsOf).foldl divideBit 0
  rw [List.foldl_flatMap]
  congr 1
  funext r b
  exact crcByte_eq_divideBits r b

end Sys2Proof.Machine
end

section
/-! SUPPORT. The pins, the bytes and the time by the state of the framer: selects, the bytes of a frame, SDO, the end
of a reset and the time step (R127 to R129, R131 to R136, R188). -/

namespace Sys2Proof.Machine

/-! ## The end of a reset, and the time (R165, R188) -/

theorem expiryDue_iff_reached (s : State) : s.expiryDue = true ↔
    (∃ h d, s.isJoined h = true ∧ (s.members.read h).leaseDeadline = some d ∧ d ≤ s.now)
      ∨ (∃ d, s.turn.deadline = some d ∧ d ≤ s.now) ∨ ∃ v, s.vote = some v ∧ v.deadline ≤ s.now := by
  simp only [State.expiryDue_eq_true_iff, State.leaseDue_eq_true_iff, State.turnDue_eq_true_iff,
    State.voteDue_eq_true_iff, exists_and_left]

/-- Settles O6: the pins at the end of a reset, and the time step by the expiries that are due. -/
theorem resetReleaseAndTime : Obligations.ResetReleaseAndTime := by
  refine ⟨fun s hr => ?_, fun s hr => ?_, fun s hr => ?_, fun s hr hlease hturn hvote => ?_, fun s hr hdue => ?_⟩
  · exact ⟨_, by rw [exec, execResetRelease, if_pos hr], rfl, fun h => Table.read_mapAll _ _ h⟩
  · rw [exec, execResetRelease, if_neg (by simp [hr])]
  · rw [exec, execMillisecondTimeStep, if_pos hr]
  · have hnone : s.expiryDue = false := by
      rw [Bool.eq_false_iff, Ne, expiryDue_iff_reached]
      rintro (⟨h, d, hj, hd, hle⟩ | ⟨d, hd, hle⟩ | ⟨v, hv, hle⟩)
      · exact Nat.not_le.2 (hlease h d hj hd) hle
      · exact Nat.not_le.2 (hturn d hd) hle
      · exact Nat.not_le.2 (hvote v hv) hle
    rw [exec, execMillisecondTimeStep, if_neg (by simp [hr]), if_neg (by simp [hnone])]
  · rw [exec, execMillisecondTimeStep, if_neg (by simp [hr]), if_pos ((expiryDue_iff_reached s).2 hdue)]

/-! ## Selects (R129) -/

theorem modLink_eq_setLink (s : State) (h : HostId) (f : Link → Link) :
    s.modLink h f = s.setLink h (f (s.links.read h)) := rfl

/-- A deselect is seen, and its framer is IDLE. -/
theorem deselect_eq (h : HostId) (s : State) :
    deselect h s = s.setLink h { s.links.read h with sel := false, selectSeen := true, phase := .idle } := rfl

/-- Settles O7, by the level of the pin and the state of the framer. -/
theorem selectsBeginTransactions : Obligations.SelectsBeginTransactions := by
  intro s h
  refine ⟨fun hsel hp hseen hr => ?_, fun hsel hno => ?_, fun hsel hp => ?_, fun hsel => ?_, fun hsel => ?_⟩
  · rw [exec, execSelAsserted, if_neg (by simp [hsel]), if_pos ⟨hp, hseen, by simp [hr]⟩]
    rfl
  · have hnone : ¬ ((s.links.read h).phase = .idle ∧ (s.links.read h).selectSeen = true
        ∧ (!s.resetAsserted) = true) := by
      rintro ⟨-, hseen, hr⟩
      obtain hno | hno := hno <;> simp_all
    rw [exec, execSelAsserted, if_neg (by simp [hsel]), if_neg hnone]
    rfl
  · rw [exec, execSelectSeen, if_pos ⟨hp, hsel⟩, deselect_eq]
    simp [hp]
  · rw [exec, execSelAsserted, if_pos hsel]
  · rw [exec, execSelectSeen, if_neg (by simp [hsel])]

/-! ## SDO (R127, R129, R136) -/

/-- Settles O9: SDO by the state of the framer. -/
theorem dataOutByPhase : Obligations.DataOutByPhase := by
  intro s h
  refine ⟨fun hsel => by simp [State.sdo, hsel], fun hsel => ⟨fun x hp hx => ?_, fun hp => ?_, fun hp => ?_,
    fun hp hr => ?_, fun p k x hp hpending hx hk => ?_⟩⟩
  · simp [State.sdo, hsel, hp, hx]
  · simp [State.sdo, hsel, hp]
  · simp [State.sdo, hsel, hp]
  · cases hq : (s.links.read h).pendingResult <;> simp [State.sdo, hsel, hp, hr, hq]
  · have hat : p.response.length - (s.links.read h).remaining = k := by omega
    simp [State.sdo, hsel, hp, hpending, hat, hx]

/-! ## Bytes (R131, R136) -/

theorem ignoresByte_eq_true_iff (l : Link) : l.ignoresByte = true ↔ l.phase = .discard ∨ l.phase = .idle := by
  unfold Link.ignoresByte
  cases l.phase <;> simp

theorem completesHeader_eq_true_iff (l : Link) (b : Byte) (good : Bool) : l.completesHeader b good = true ↔
    l.phase = .header ∧ l.header.length = 11 ∧ (l.crc == b) = good := by
  simp only [Link.completesHeader, Bool.and_eq_true, beq_iff_eq, and_assoc]

section
variable {s : State} {h : HostId} {b : Byte}

theorem headerEnd_ignored {good : Bool} {which : Request → Bool} {answer : Request → State → State}
    (hi : (s.links.read h).phase = .discard ∨ (s.links.read h).phase = .idle) :
    headerEnd h b good which answer s = .next s := by
  have hc : (s.links.read h).completesHeader b good = false := by
    rw [Bool.eq_false_iff, Ne, completesHeader_eq_true_iff]
    rintro ⟨hp, -⟩
    simp [hp] at hi
  simp [headerEnd, hc, (ignoresByte_eq_true_iff _).2 hi]

theorem headerEnd_refused {good : Bool} {which : Request → Bool} {answer : Request → State → State}
    (hi : ¬ ((s.links.read h).phase = .discard ∨ (s.links.read h).phase = .idle))
    (hc : ¬ ((s.links.read h).phase = .header ∧ (s.links.read h).header.length = 11
      ∧ ((s.links.read h).crc == b) = good)) : headerEnd h b good which answer s = .refused .notThatEvent := by
  rw [← completesHeader_eq_true_iff] at hc
  rw [← ignoresByte_eq_true_iff] at hi
  simp [headerEnd, hc, hi]

/-- The commands that a good 12th header byte may be: HEADER_GOOD_CHECK and the rows of the read kinds. -/
theorem exec_goodHeader {c : Instr}
    (hc : c ∈ [.headerGoodCheck h b, .get h b, .fetchNotice h b, .readCounter h b, .findChannel h b, .take h b]) :
    ∃ which answer, ∀ s, exec c s = headerEnd h b true which answer s := by
  simp only [List.mem_cons, List.not_mem_nil, or_false] at hc
  rcases hc with rfl | rfl | rfl | rfl | rfl | rfl
  · exact ⟨_, _, fun s => (rfl : execHeaderGoodCheck h b s = _)⟩
  · exact ⟨_, _, fun s => (rfl : execGet h b s = _)⟩
  · exact ⟨_, _, fun s => (rfl : execFetchNotice h b s = _)⟩
  · exact ⟨_, _, fun s => (rfl : execReadCounter h b s = _)⟩
  · exact ⟨_, _, fun s => (rfl : execFindChannel h b s = _)⟩
  · exact ⟨_, _, fun s => (rfl : execTake h b s = _)⟩

/-- The commands that a 12th header byte may be. -/
theorem exec_check {c : Instr} (hc : c ∈ [.headerGoodCheck h b, .headerBadCheck h b, .get h b, .fetchNotice h b,
      .readCounter h b, .findChannel h b, .take h b]) :
    ∃ good which answer, ∀ s, exec c s = headerEnd h b good which answer s := by
  by_cases hbad : c = .headerBadCheck h b
  · exact hbad ▸ ⟨_, _, _, fun s => (rfl : execHeaderBadCheck h b s = _)⟩
  · exact ⟨true, exec_goodHeader (by simpa [hbad] using hc)⟩

/-- A byte of any part is ignored in DISCARD, and where no transaction has begun (R129, R133, R139). -/
theorem exec_byte_ignored (hi : (s.links.read h).phase = .discard ∨ (s.links.read h).phase = .idle) :
    exec (.headerByteArrival h b) s = .next s ∧ exec (.payloadByteArrival h b) s = .next s
      ∧ exec (.responseByteArrival h) s = .next s := by
  have hignores := (ignoresByte_eq_true_iff _).2 hi
  have hp : (s.links.read h).phase ≠ .header ∧ (s.links.read h).phase ≠ .payloadIn
      ∧ (s.links.read h).phase ≠ .responseOut := by
    obtain hp | hp := hi <;> simp [hp]
  simp [exec, execHeaderByteArrival, execPayloadByteArrival, execResponseByteArrival, hignores, hp]

/-- A header byte that the framer neither captures nor ignores. -/
theorem headerByteArrival_refused (hi : ¬ ((s.links.read h).phase = .discard ∨ (s.links.read h).phase = .idle))
    (hp : ¬ ((s.links.read h).phase = .header ∧ (s.links.read h).header.length < 11)) :
    exec (.headerByteArrival h b) s = .refused .notThatEvent := by
  rw [← ignoresByte_eq_true_iff] at hi
  simp [exec, execHeaderByteArrival, hi, hp]

theorem payloadByteArrival_refused (hi : ¬ ((s.links.read h).phase = .discard ∨ (s.links.read h).phase = .idle))
    (hp : (s.links.read h).phase ≠ .payloadIn) : exec (.payloadByteArrival h b) s = .refused .notThatEvent := by
  rw [← ignoresByte_eq_true_iff] at hi
  simp [exec, execPayloadByteArrival, hi, hp]

theorem responseByteArrival_refused (hi : ¬ ((s.links.read h).phase = .discard ∨ (s.links.read h).phase = .idle))
    (hp : (s.links.read h).phase ≠ .responseOut) : exec (.responseByteArrival h) s = .refused .notThatEvent := by
  rw [← ignoresByte_eq_true_iff] at hi
  simp [exec, execResponseByteArrival, hi, hp]

end

/-- Settles O10, by the state of the framer: the byte it awaits, the bytes it ignores, and those of another part. -/
theorem byteArrivalsAdvanceFramer : Obligations.ByteArrivalsAdvanceFramer := by
  intro s h b
  refine ⟨fun hp hlen => ?_, fun hp hr => ?_, fun hp hr => ?_, fun hp hr => ?_, fun hp hr => ?_, fun hi => ?_,
    fun hp => ?_, fun hp => ?_, fun hp => ?_⟩
  · rw [exec, execHeaderByteArrival, if_pos ⟨hp, hlen⟩]
    rfl
  · rw [exec, execPayloadByteArrival, if_pos hp, if_neg (by omega)]
    rfl
  · rw [exec, execPayloadByteArrival, if_pos hp, if_pos hr]
  · rw [exec, execResponseByteArrival, if_pos hp, if_neg (by omega)]
    rfl
  · rw [exec, execResponseByteArrival, if_pos hp, if_pos hr]
  · obtain ⟨hheader, hpayload, hresponse⟩ := exec_byte_ignored (b := b) hi
    refine ⟨hheader, hpayload, hresponse, fun c hc => ?_⟩
    obtain ⟨good, which, answer, ho⟩ := exec_check hc
    rw [ho, headerEnd_ignored hi]
  · have hi : ¬ ((s.links.read h).phase = .discard ∨ (s.links.read h).phase = .idle) := by simp [hp]
    refine ⟨payloadByteArrival_refused hi (by simp [hp]), responseByteArrival_refused hi (by simp [hp]),
      fun hlen => headerByteArrival_refused hi (fun hh => Nat.not_lt.2 hlen hh.2), fun hlen c hc => ?_,
      fun hcrc c hc => ?_, fun hcrc => ?_⟩
    · obtain ⟨good, which, answer, ho⟩ := exec_check hc
      rw [ho, headerEnd_refused hi fun hh => hlen hh.2.1]
    · obtain ⟨which, answer, ho⟩ := exec_goodHeader hc
      rw [ho, headerEnd_refused hi fun hh => hcrc (by simpa using hh.2.2)]
    · rw [exec, execHeaderBadCheck, headerEnd_refused hi (by simp [hcrc])]
  · have hi : ¬ ((s.links.read h).phase = .discard ∨ (s.links.read h).phase = .idle) := by simp [hp]
    refine List.forall_mem_cons.2 ⟨headerByteArrival_refused hi (by simp [hp]),
      List.forall_mem_cons.2 ⟨responseByteArrival_refused hi (by simp [hp]), fun c hc => ?_⟩⟩
    obtain ⟨good, which, answer, ho⟩ := exec_check hc
    rw [ho, headerEnd_refused hi (by simp [hp])]
  · have hi : ¬ ((s.links.read h).phase = .discard ∨ (s.links.read h).phase = .idle) := by simp [hp]
    refine List.forall_mem_cons.2 ⟨headerByteArrival_refused hi (by simp [hp]),
      List.forall_mem_cons.2 ⟨payloadByteArrival_refused hi (by simp [hp]), fun c hc => ?_⟩⟩
    obtain ⟨good, which, answer, ho⟩ := exec_check hc
    rw [ho, headerEnd_refused hi (by simp [hp])]

end Sys2Proof.Machine
end

section
/-! SUPPORT. Headers and deselects: a good and a bad check, the deselect that ends no transaction of its own, and the
requests that are refused without an owner (R133 to R135, R139, R143, R144, R151). -/

namespace Sys2Proof.Machine

/-! ## The check of a header (R133, R134) -/

theorem kind_eq_put_iff (r : Request) : r.kind = some .put ↔ r.code = 0x42 := by
  have hall : ∀ c : Byte, Kind.ofCode c = some .put ↔ c = 0x42 := by decide
  exact hall r.code

/-- The payload a request expects, by its code and operand A (R61, R134). -/
theorem payloadLength_eq (r : Request) :
    r.payloadLength = if r.code = 0x42 ∧ 1 ≤ r.a.toNat ∧ r.a.toNat ≤ 64 then r.a.toNat else 0 := by
  simp only [Request.payloadLength, kind_eq_put_iff, countInRange_eq_true_iff]

/-- The payload of a request that is no read kind is awaited after its header. -/
theorem answerKind_of_not_read {h : HostId} {r : Request} (hk : ∀ k, r.kind = some k → k.isRead = false) (s : State) :
    answerKind h r s = awaitPayload h r.payloadLength s := by
  have hno : ∀ k : Kind, k.isRead = true → r.kind ≠ some k := fun k hr hrk => by simp [hk k hrk] at hr
  unfold answerKind
  split
  · exact absurd ‹_› (hno .get rfl)
  · exact absurd ‹_› (hno .fetchNotice rfl)
  · exact absurd ‹_› (hno .readCounter rfl)
  · exact absurd ‹_› (hno .findChannel rfl)
  · exact absurd ‹_› (hno .take rfl)
  · rfl

/-- A good header that awaits its payload: the lease is renewed, and the link holds the whole header. -/
theorem awaitPayload_after_header (h : HostId) (b : Byte) (n : Nat) (s : State) :
    awaitPayload h n (renewLease h (captureByte h b s)) =
      ({ s with members := s.members.write h ((s.members.read h).renewed s.now) }.setLink h
        { (s.links.read h).headed b with phase := .payloadIn, remaining := n }) := by
  simp [awaitPayload, renewLease_eq, captureByte, State.setLink, State.modLink, Table.update, Link.headed]

/-- A read kind's own row is the good check of its header, if both answer alike. -/
theorem headerGoodCheck_eq_headerEnd {s : State} {h : HostId} {b : Byte} {r : Request} {k : Kind}
    {answer : HostId → Request → State → State} (hm : s.meetsCheck h b r) (hk : r.kind = some k)
    (ha : ∀ u, answerKind h r u = answer h r u) :
    execHeaderGoodCheck h b s = headerEnd h b true (isKind k) (fun r t => answer h r (renewLease h t)) s := by
  rw [execHeaderGoodCheck, headerEnd_of_meetsCheck hm rfl, headerEnd_of_meetsCheck hm (by simp [isKind, hk]), ha]

/-- Settles O12: a request that is no read awaits its payload, and a read is answered as its own row answers it. -/
theorem goodHeaderRenewsLease : Obligations.GoodHeaderRenewsLease := by
  intro s h b r hm
  have hkind : ∀ {c : Byte} {k : Kind}, Kind.ofCode c = some k → r.code = c → r.kind = some k := fun hc hr => by
    rw [Request.kind, hr, hc]
  refine ⟨fun hk => ?_, fun hc => ?_, fun hc => ?_, fun hc => ?_, fun hc => ?_, fun hc => ?_⟩
  · show execHeaderGoodCheck h b s = _
    rw [execHeaderGoodCheck, headerEnd_of_meetsCheck hm rfl, answerKind_of_not_read hk, awaitPayload_after_header,
      payloadLength_eq]
  · have hk := hkind (k := .get) rfl hc
    exact headerGoodCheck_eq_headerEnd hm hk fun u => by rw [answerKind, hk]
  · have hk := hkind (k := .fetchNotice) rfl hc
    exact headerGoodCheck_eq_headerEnd hm hk fun u => by rw [answerKind, hk]
  · have hk := hkind (k := .readCounter) rfl hc
    exact headerGoodCheck_eq_headerEnd hm hk fun u => by rw [answerKind, hk]
  · have hk := hkind (k := .findChannel) rfl hc
    exact headerGoodCheck_eq_headerEnd hm hk fun u => by rw [answerKind, hk]
  · have hk := hkind (k := .take) rfl hc
    exact headerGoodCheck_eq_headerEnd hm hk fun u => by rw [answerKind, hk]

/-- The serial of a whole header is the one its first 11 bytes give. -/
theorem ofHeader_serial {l : Link} {b : Byte} (hlen : l.header.length = 11) :
    (Request.ofHeader (l.header ++ [b])).serial = l.serial := by
  simp [Request.ofHeader, Link.serial, hlen]

/-- Settles O13: the header is captured, the framer goes to DISCARD, and the fault is reported. -/
theorem badHeaderDiscards : Obligations.BadHeaderDiscards := by
  intro s h b hp hlen hcrc
  have hc : (s.links.read h).completesHeader b false = true := by simp [Link.completesHeader, hp, hlen, hcrc]
  show execHeaderBadCheck h b s = _
  rw [execHeaderBadCheck, headerEnd]
  simp only [hc, Bool.and_self, if_true]
  rw [linkFault_eq, ofHeader_serial hlen]
  simp [captureByte, State.setLink, State.setDesk, State.modLink, Table.update, Link.headed]

/-! ## Deselects that end no transaction of their own (R139, R144) -/

section
variable {s : State} {h : HostId}

theorem endRequest_overtaken {which : Request → Bool} {owner : Link → State → State × Reply}
    (hp : (s.links.read h).phase ≠ .payloadIn) : endRequest h which owner s = deselectAfterEvent h s := by
  simp [endRequest, Link.isComplete, hp]

theorem endRead_overtaken {k : Kind} {owner : Commit → State → State} (hp : (s.links.read h).phase ≠ .responseOut) :
    endRead h k owner s = deselectAfterEvent h s := by
  simp [endRead, Link.isComplete, hp]

/-- A TRANSACTION_VOID with no transaction under way. -/
theorem transactionVoid_overtaken (hp : (s.links.read h).phase = .discard ∨ (s.links.read h).phase = .idle) :
    exec (.transactionVoid h) s = deselectAfterEvent h s := by
  have hno : (s.links.read h).isIncomplete = false := by
    obtain hp | hp := hp <;> simp [Link.isIncomplete, hp]
  rw [exec, execTransactionVoid, if_neg (by simp [hno])]

/-- Every other deselect finds no transaction to end before its header is whole, and after it was ended or voided. -/
theorem deselect_overtaken {c : Instr} (hc : c ∈ deselects h) (hv : c ≠ .transactionVoid h)
    (hin : (s.links.read h).phase ≠ .payloadIn) (hout : (s.links.read h).phase ≠ .responseOut) :
    exec c s = deselectAfterEvent h s := by
  simp only [deselects, List.mem_cons, List.not_mem_nil, or_false, hv, false_or] at hc
  rcases hc with rfl | rfl | rfl | rfl | rfl | rfl | rfl | rfl | rfl | rfl | rfl | rfl | rfl | rfl | rfl | rfl | rfl |
    rfl | rfl | rfl | rfl | rfl | rfl | rfl | rfl | rfl | rfl | rfl | rfl | rfl | rfl
  all_goals simp only [exec, execDeselectInDiscard, execUnknownRequest, execJoin, execLeave, execSetLeasePeriod,
    execSetAttentionMask, execSetCreditThreshold, execSetReserveThreshold, execSetTurnWindow, execSetVoteWindow,
    execSetPrecedence, execSetQuotaCeiling, execSetReadOnlyValue, execVoteClear, execAck, execFetchNoticeCommit,
    execReadCounterCommit, execGetCommit, execFindChannelCommit, execTakeCommit, execOpenChannel, execCloseChannel,
    execSubscribe, execUnsubscribe, execSuspend, execResume, execBegin, execPut, execSeal, execAbort, execSkip,
    endRequest_overtaken hin, endRead_overtaken hout]

end

/-- Settles O15: in every state named the deselect is one after an event, whichever command brings it. -/
theorem deselectWithoutRequest : Obligations.DeselectWithoutRequest := by
  intro s h c hc
  have hafter : ((s.links.read h).phase = .discard ∨ (s.links.read h).phase = .idle) →
      exec c s = deselectAfterEvent h s := fun hp => by
    by_cases hv : c = .transactionVoid h
    · rw [hv, transactionVoid_overtaken hp]
    · exact deselect_overtaken hc hv (by rcases hp with hp | hp <;> simp [hp])
        (by rcases hp with hp | hp <;> simp [hp])
  refine ⟨fun hp => ?_, fun hp hsel => ?_, fun hp hsel => ?_, fun hp hv => ?_⟩
  · rw [hafter (.inl hp), deselectAfterEvent_discard hp]
    rfl
  · rw [hafter (.inr hp)]
    simp only [deselectAfterEvent, hp, hsel, if_true]
    rfl
  · rw [hafter (.inr hp)]
    simp [deselectAfterEvent, hp, hsel]
  · rw [deselect_overtaken hc hv (by simp [hp]) (by simp [hp])]
    simp [deselectAfterEvent, hp]

/-! ## Requests without an owner (R134, R143, R158) -/

/-- A request whose owner asks first whether the host is JOINED (R143). -/
theorem endRequest_notJoined {s : State} {h : HostId} {r : Request} {k : Kind} {owner : Link → State → State × Reply}
    (hc : s.carriesRequest h r) (hj : s.isJoined h = false) (hk : r.kind = some k)
    (ho : ∀ l u, u.isJoined h = false → owner l u = refuse .notJoined u) :
    endRequest h (isKind k) owner s = .next (s.ended h .notJoined 0) :=
  endRequest_refused hc (by simp [isKind, hk]) (ho _ _ ((isJoined_closeTransaction h h s).trans hj))

theorem isSetOfNoParameter_of {r : Request} (hk : r.kind = some .set)
    (hi : ∀ i, Ident.ofCode r.a = some i → i.isParameter = false) : isSetOfNoParameter r = true := by
  cases ho : Ident.ofCode r.a with
  | none => simp [isSetOfNoParameter, hk, ho]
  | some i => simp [isSetOfNoParameter, hk, ho, hi i ho]

/-- Settles O16: each request is refused on its host, its code or its identifier, before anything else is looked at. -/
theorem refusalsWithoutAnOwner : Obligations.RefusalsWithoutAnOwner := by
  intro s h r hc
  refine ⟨fun hk => ?_, fun hk hi => ?_, fun hj => ⟨fun hk => ?_, fun hk => ?_, fun hk => ?_, fun hk => ?_, fun hk => ?_,
    fun hk => ?_, fun hk => ?_, fun hk => ?_, fun hk => ?_, fun hk => ?_, fun hk => ?_, fun hk => ?_, fun hk => ?_⟩⟩
  · rw [exec, execUnknownRequest]
    exact endRequest_refused hc (by simp [hk]) rfl
  · rw [exec, execSetReadOnlyValue]
    refine endRequest_refused hc (isSetOfNoParameter_of hk hi) ?_
    rw [isJoined_closeTransaction]
    rfl
  · rw [exec, execLeave, endRequest_notJoined hc hj hk fun l u hu => by simp [ownerLeave, hu]]
  · rw [exec, execVoteClear, endRequest_notJoined hc hj hk fun l u hu => by simp [ownerVoteClear, hu]]
  · rw [exec, execOpenChannel, endRequest_notJoined hc hj hk fun l u hu => by simp [ownerOpenChannel, hu]]
  · rw [exec, execCloseChannel, endRequest_notJoined hc hj hk fun l u hu => by simp [ownerCloseChannel, hu]]
  · rw [exec, execSubscribe, endRequest_notJoined hc hj hk fun l u hu => by simp [ownerSubscribe, hu]]
  · rw [exec, execUnsubscribe, endRequest_notJoined hc hj hk fun l u hu => by simp [ownerUnsubscribe, hu]]
  · rw [exec, execSuspend, endRequest_notJoined hc hj hk fun l u hu => by simp [ownerRest, hu]]
  · rw [exec, execResume, endRequest_notJoined hc hj hk fun l u hu => by simp [ownerRest, hu]]
  · rw [exec, execBegin, endRequest_notJoined hc hj hk fun l u hu => by simp [ownerBegin, hu]]
  · rw [exec, execPut, endRequest_notJoined hc hj hk fun l u hu => by simp [ownerPut, hu]]
  · rw [exec, execSeal, endRequest_notJoined hc hj hk fun l u hu => by simp [ownerSeal, hu]]
  · rw [exec, execAbort, endRequest_notJoined hc hj hk fun l u hu => by simp [ownerAbort, hu]]
  · rw [exec, execSkip, endRequest_notJoined hc hj hk fun l u hu => by simp [ownerSkip, hu]]

end Sys2Proof.Machine
end

section
/-! SUPPORT. GET: the value of each identifier, its four bytes, and the table of codes (R159, R184, R187). -/

namespace Sys2Proof.Machine

/-- One byte of a 32-bit field. -/
theorem extractByte_ofNat (n : Nat) {k : Nat} (hk : k ≤ 24) :
    (BitVec.ofNat 32 n).extractLsb' k 8 = BitVec.ofNat 8 (n / 2 ^ k) := by
  apply BitVec.eq_of_getLsbD_eq
  intro i hi
  have hin : k + i < 32 := by omega
  simp only [BitVec.getLsbD_extractLsb', BitVec.getLsbD_ofNat, Nat.testBit_div_two_pow, hi, hin, decide_true,
    Bool.true_and, Nat.add_comm i k]

/-- A number as a 32-bit field is its four bytes, most significant first. -/
theorem bytes32_ofNat (n : Nat) : bytes32 (BitVec.ofNat 32 n) =
    [BitVec.ofNat 8 (n / 16777216), BitVec.ofNat 8 (n / 65536), BitVec.ofNat 8 (n / 256), BitVec.ofNat 8 n] := by
  rw [bytes32, extractByte_ofNat n le_rfl, extractByte_ofNat n (by omega), extractByte_ofNat n (by omega),
    extractByte_ofNat n (by omega), pow_zero, Nat.div_one]
  rfl

/-- The renewal of a lease sets a deadline alone (R151). -/
theorem renewLease_member (h g : HostId) (s : State) :
    ∃ d, (renewLease h s).members.read g = { s.members.read g with leaseDeadline := d } := by
  have hrenewed : ∃ d, (s.members.read h).renewed s.now = { s.members.read h with leaseDeadline := d } := by
    unfold Member.renewed
    split
    · exact ⟨_, rfl⟩
    · exact ⟨(s.members.read h).leaseDeadline, rfl⟩
  rw [renewLease_eq]
  by_cases hg : g = h
  · simpa [hg] using hrenewed
  · exact ⟨(s.members.read g).leaseDeadline, Table.read_write_ne _ _ hg⟩

/-- The capture of a header and the renewal of a lease touch no value that GET reports. -/
theorem value_after_header (h : HostId) (b : Byte) (s : State) (i : Ident) :
    (renewLease h (captureByte h b s)).value h i = s.value h i := by
  have hmember : ∀ g, ∃ d, (renewLease h (captureByte h b s)).members.read g =
      { s.members.read g with leaseDeadline := d } := fun g => by
    simpa using renewLease_member h g (captureByte h b s)
  have hstate : ∀ g, ((renewLease h (captureByte h b s)).members.read g).state = (s.members.read g).state := fun g => by
    obtain ⟨d, hd⟩ := hmember g
    rw [hd]
  obtain ⟨d, hd⟩ := hmember h
  have hlink : (captureByte h b s).links.read h = (s.links.read h).headed b := by
    simp [captureByte, Link.headed]
  cases i <;> simp [State.value, State.freeCount, State.nonClosed, hstate, hd, hlink, Link.headed]

/-- The identifiers of SET and GET with their codes (R187). -/
def Ident.codes : List (Nat × Ident) :=
  [ (0x01, .leasePeriod), (0x02, .attentionMask), (0x03, .creditThreshold), (0x10, .reserveThreshold),
    (0x11, .turnWindow), (0x12, .voteWindow), (0x13, .precedence), (0x14, .quotaCeiling), (0x20, .freeCells),
    (0x21, .freeRecords), (0x22, .freeEntries), (0x23, .freeSubscriptions), (0x24, .nonClosedChannels),
    (0x25, .hostStates), (0x26, .lastLinkError), (0x27, .interfaceRevision) ]

theorem Ident.ofCode_eq_some_iff (a : Word16) (i : Ident) : Ident.ofCode a = some i ↔ (a.toNat, i) ∈ Ident.codes := by
  constructor
  · intro ho
    unfold Ident.ofCode at ho
    split at ho <;> cases ho <;> simp_all [Ident.codes]
  · intro hm
    simp only [Ident.codes, List.mem_cons, Prod.mk.injEq, List.not_mem_nil, or_false] at hm
    rcases hm with ⟨ha, rfl⟩ | ⟨ha, rfl⟩ | ⟨ha, rfl⟩ | ⟨ha, rfl⟩ | ⟨ha, rfl⟩ | ⟨ha, rfl⟩ | ⟨ha, rfl⟩ | ⟨ha, rfl⟩
      | ⟨ha, rfl⟩ | ⟨ha, rfl⟩ | ⟨ha, rfl⟩ | ⟨ha, rfl⟩ | ⟨ha, rfl⟩ | ⟨ha, rfl⟩ | ⟨ha, rfl⟩ | ⟨ha, rfl⟩ <;>
    simp [Ident.ofCode, ha]

/-- What GET reports, under the code of each identifier. -/
def State.getTable (s : State) (h : HostId) : List (Nat × Nat) := Ident.codes.map (fun x => (x.1, s.value h x.2))

theorem mem_getTable (s : State) (h : HostId) (a : Word16) (v : Nat) :
    (a.toNat, v) ∈ s.getTable h ↔ ∃ i, Ident.ofCode a = some i ∧ s.value h i = v := by
  simp only [State.getTable, List.mem_map, Prod.mk.injEq, Prod.exists, Ident.ofCode_eq_some_iff]
  exact ⟨fun ⟨_, i, hm, ha, hv⟩ => ⟨i, ha ▸ hm, hv⟩, fun ⟨i, hm, hv⟩ => ⟨_, i, hm, rfl, hv⟩⟩

section
variable {s : State} {h : HostId} {b : Byte} {r : Request} (hm : s.meetsCheck h b r) (hk : r.kind = some .get)
include hm hk

theorem get_of_ident {i : Ident} (hi : Ident.ofCode r.a = some i) :
    exec (.get h b) s =
      .next (s.answered h b (plainResponse (bytes32 (BitVec.ofNat 32 (s.value h i))) .ok)) := by
  show execGet h b s = _
  rw [execGet, headerEnd_of_meetsCheck hm (by simp [isKind, hk]), answerGet, hi, ← respond_after_header,
    ← value_after_header h b s i]

theorem get_of_no_ident (hi : Ident.ofCode r.a = none) :
    exec (.get h b) s = .next (s.answered h b (plainResponse (bytes32 0) .badRequest)) := by
  show execGet h b s = _
  rw [execGet, headerEnd_of_meetsCheck hm (by simp [isKind, hk]), answerGet, hi, ← respond_after_header]

end

/-- Settles O17: the statement's table is that of the model's values, and the answer is read off it. -/
theorem getAnswersIdentifier : Obligations.GetAnswersIdentifier := by
  intro s h b r
  refine ⟨fun hm hk => ⟨fun v hv => ?_, fun hnone => ?_⟩, fun p hc => ?_⟩
  · obtain ⟨i, hi, rfl⟩ := (mem_getTable s h r.a v).1 hv
    rw [get_of_ident hm hk hi, bytes32_ofNat]
    rfl
  · have hno : Ident.ofCode r.a = none := Option.eq_none_iff_forall_ne_some.2 fun i hi =>
      hnone _ ((mem_getTable s h r.a _).2 ⟨i, hi, rfl⟩)
    rw [get_of_no_ident hm hk hno]
    rfl
  · show execGetCommit h s = _
    rw [execGetCommit, endRead_of_carries hc, setLast_closeTransaction]

end Sys2Proof.Machine
end

section
/-! SUPPORT. JOIN: its table, what an admission leaves, and the vote that stays open beside it (R149). -/

namespace Sys2Proof.Machine

/-! ## What an accepted JOIN leaves -/

/-- The account of a joining host (step 1 of R149). -/
def State.joinedAccount (s : State) (h : HostId) (r : Request) : Account :=
  let grant := min r.b.toNat s.params.quotaCeiling
  { quota := grant, charge := (s.accounts.read h).charge, exhausted := decide (grant ≤ (s.accounts.read h).charge) }

/-- The record of a joining host (steps 2 and 4 of R149): lease, threshold and state, with its mask as it was. -/
def State.joinedMember (s : State) (h : HostId) (r : Request) : Member :=
  { state := .joined, leasePeriod := r.a.toNat, creditThreshold := r.c.toNat
    leaseDeadline := if r.a = 0 then none else some (s.now + r.a.toNat), mask := (s.members.read h).mask }

theorem admitMember_eq (h : HostId) (r : Request) (s : State) :
    admitMember h r s = { s with
      accounts := s.accounts.write h (s.joinedAccount h r), members := s.members.write h (s.joinedMember h r)
      desks := s.desks.write h Desk.ready } := by
  have hmark : ∀ q c : Nat, (q - c == 0) = decide (q ≤ c) := fun q c => by
    rw [Bool.eq_iff_iff]
    simp [Nat.sub_eq_zero_iff_le]
  have hlease : leaseDeadlineOf s.now r.a.toNat = if r.a = 0 then none else some (s.now + r.a.toNat) := by
    simp only [leaseDeadlineOf, BitVec.toNat_eq]
    rfl
  simp [admitMember, State.joinedAccount, State.joinedMember, State.modAccount, State.modMember, State.modDesk,
    Table.update, Account.credit, hmark, hlease]

theorem admitMember_isJoined (h g : HostId) (r : Request) (s : State) :
    (admitMember h r s).isJoined g = (g == h || s.isJoined g) := by
  rw [admitMember_eq]
  by_cases hg : g = h
  · simp [State.isJoined, State.joinedMember, hg]
  · simp [State.isJoined, Table.read_write, hg]

/-- Steps 1 to 5 of R149: the host is admitted and the other JOINED hosts are told. -/
def State.admitted (s : State) (h : HostId) (r : Request) : State :=
  postOthers h (.hostJoined h) (admitMember h r s)

theorem postOthers_toldOthers (h : HostId) (n : Notice) (s : State) :
    postOthers h n s = { s with desks := (postOthers h n s).desks } :=
  foldl_desks (fun s g => post_desks g n s) _ s

theorem postOthers_ignoresLinks (h : HostId) (n : Notice) : IgnoresLinks (postOthers h n) :=
  .foldl (fun g => post_ignoresLinks g n) _

section
variable (s : State) (h : HostId) (r : Request)

theorem admitted_eq : s.admitted h r = { s with
    accounts := s.accounts.write h (s.joinedAccount h r), members := s.members.write h (s.joinedMember h r)
    desks := (s.admitted h r).desks } :=
  calc s.admitted h r = { admitMember h r s with desks := (s.admitted h r).desks } := postOthers_toldOthers _ _ _
    _ = _ := by rw [admitMember_eq]

theorem admitted_desks (g : HostId) : (s.admitted h r).desks.read g =
    if g = h then Desk.ready
    else if s.isJoined g = true then (s.desks.read g).posted (.hostJoined h) else s.desks.read g := by
  rw [State.admitted, postOthers_desks, admitMember_isJoined, admitMember_eq, Table.read_write]
  by_cases hg : g = h <;> simp [hg]

theorem admitted_isJoined (g : HostId) : (s.admitted h r).isJoined g = (g == h || s.isJoined g) := by
  rw [← admitMember_isJoined h g r s]
  simp [State.isJoined, State.admitted]

theorem admitted_vote : (s.admitted h r).vote = s.vote := by
  rw [admitted_eq]

end

theorem admitted_ignoresLinks (h : HostId) (r : Request) : IgnoresLinks (fun s => s.admitted h r) :=
  (postOthers_ignoresLinks h _).comp (g := fun s => admitMember h r s) fun s L => by
    dsimp only
    rw [admitMember_eq, admitMember_eq]
    rfl

/-! ## The open vote (step 6 of R149) -/

/-- A vote that has a voter, and lacks a JOINED host among its voters, stays open (R162). -/
theorem judgeVote_of_open {s : State} {v : Vote} {x g : HostId} (hv : s.vote = some v)
    (hx : v.voters.read x = true) (hg : s.isJoined g = true) (hn : v.voters.read g = false) : judgeVote s = s := by
  have hempty : v.voters ≠ noHosts := fun he => by simp [he] at hx
  have hall : v.voters ≠ s.joinedHosts := fun he => by
    rw [he, joinedHosts_read, hg] at hn
    cases hn
  simp [judgeVote, hv, hempty, hall]

theorem tellVote_of_open {s : State} {h : HostId} {v : Vote} (hv : s.vote = some v) (hne : v.voters ≠ noHosts)
    (hj : s.isJoined h = true) (hn : v.voters.read h = false) :
    tellVote h s = s.setDesk h ((s.desks.read h).posted (.voteOpened v.opener)) := by
  obtain ⟨x, hx⟩ : ∃ x, v.voters.read x = true := by
    by_contra hnone
    exact hne ((noHosts_iff _).2 fun g => by simpa using fun hg => hnone ⟨g, hg⟩)
  have hv' : (post h (.voteOpened v.opener) s).vote = some v := by simpa using hv
  have hj' : (post h (.voteOpened v.opener) s).isJoined h = true := by rwa [post_isJoined]
  rw [tellVote, hv]
  show judgeVote _ = _
  rw [judgeVote_of_open hv' hx hj' hn, post_eq, if_pos hj]

/-! ## The request -/

theorem joinRefusals_closeTransaction (h : HostId) (r : Request) (s : State) :
    joinRefusals (closeTransaction h s) h r = joinRefusals s h r := by
  simp [joinRefusals, State.isJoined]

/-- JOIN follows R149's table. -/
theorem ownerJoin_by_table (h : HostId) (l : Link) (s : State) :
    ownerJoin h l s =
      match firstRefusal (joinRefusals s h l.request) with
      | some c => refuse c s
      | none => accept (tellVote h (s.admitted h l.request)) (word (min l.request.b.toNat s.params.quotaCeiling)) := by
  have hzero : (l.request.a == 0) = (l.request.a.toNat == 0) := by
    rw [Bool.eq_iff_iff]
    simp [BitVec.toNat_eq]
  have hrange : (!(l.request.a == 0 || (decide (10 ≤ l.request.a.toNat) && decide (l.request.a.toNat ≤ 60000)))
      || l.request.b == 0 || !(decide (1 ≤ l.request.c.toNat) && decide (l.request.c.toNat ≤ 64))) =
      (!leaseInRange l.request.a.toNat || l.request.b == 0 || !thresholdInRange l.request.c.toNat) := by
    rw [hzero]
    rfl
  simp only [ownerJoin, joinRefusals, hrange]
  cases s.isJoined h
  · cases (!leaseInRange l.request.a.toNat || l.request.b == 0 || !thresholdInRange l.request.c.toNat) <;> rfl
  · rfl

section
variable {s : State} {h : HostId} {r : Request} (hc : s.carries h .join r)
include hc

theorem execJoin_refused {c : ResultCode} (hf : firstRefusal (joinRefusals s h r) = some c) :
    exec (.join h) s = .next (s.ended h c 0) := by
  obtain ⟨hc, hk⟩ := hc
  show execJoin h s = _
  refine endRequest_refused hc (by simp [isKind, hk]) ?_
  obtain ⟨-, -, -, rfl⟩ := hc
  rw [ownerJoin_by_table, joinRefusals_closeTransaction, hf]
  rfl

/-- A JOIN that is not refused and whose telling of the vote comes to an effect that looks at no link. -/
theorem execJoin_accepted {tell : State → State} (hf : firstRefusal (joinRefusals s h r) = none)
    (hi : IgnoresLinks tell)
    (ht : tellVote h ((closeTransaction h s).admitted h r) = tell ((closeTransaction h s).admitted h r)) :
    exec (.join h) s =
      .next (tell ((s.ended h .ok (BitVec.ofNat 16 (min r.b.toNat s.params.quotaCeiling))).admitted h r)) := by
  obtain ⟨hc, hk⟩ := hc
  show execJoin h s = _
  refine endRequest_of_ignoresLinks (effect := fun u => tell (u.admitted h r))
    (reply := { result := .ok, value := BitVec.ofNat 16 (min r.b.toNat s.params.quotaCeiling) }) hc
    (by simp [isKind, hk]) (hi.comp (admitted_ignoresLinks h r)) ?_
  obtain ⟨-, -, -, rfl⟩ := hc
  rw [ownerJoin_by_table, joinRefusals_closeTransaction, hf, ← ht]
  simp [accept, word]

end

/-- Settles O23: by R149's table; an open vote stays open, since the joining host has not voted. -/
theorem joinAdmitsHost : Obligations.JoinAdmitsHost := by
  intro s h r hc
  refine ⟨fun c hf => execJoin_refused hc hf, fun hf hopen => ?_⟩
  dsimp only
  cases hv : s.vote with
  | none =>
    have hvote : ((closeTransaction h s).admitted h r).vote = none := by rw [admitted_vote]; simpa using hv
    have htell : tellVote h ((closeTransaction h s).admitted h r) = (closeTransaction h s).admitted h r := by
      rw [tellVote, hvote]
    exact ⟨_, execJoin_accepted hc (tell := id) hf (fun _ _ => rfl) htell, admitted_eq _ h r,
      admitted_desks _ h r⟩
  | some v =>
    obtain ⟨hne, hn⟩ := hopen v hv
    have hvote : ((closeTransaction h s).admitted h r).vote = some v := by rw [admitted_vote]; simpa using hv
    have hjoined : ((closeTransaction h s).admitted h r).isJoined h = true := by simp [admitted_isJoined]
    refine ⟨_, execJoin_accepted hc (tell := fun u => u.setDesk h ((u.desks.read h).posted (.voteOpened v.opener))) hf
      (fun _ _ => rfl) (tellVote_of_open hvote hne hjoined hn), ?_, fun g => ?_⟩
    · rw [State.setDesk, admitted_eq]
      rfl
    · simp only [State.setDesk, Table.read_write, admitted_desks, if_true]
      split <;> rfl

end Sys2Proof.Machine
end

section
/-! SUPPORT. VOTE_CLEAR: the ballot it casts, the vote that stays open, and the clear that the last voter needed brings
(R161 to R163). -/

namespace Sys2Proof.Machine

/-! ## The ballot (R161) -/

/-- The vote after a host's VOTE_CLEAR, before it is judged: opened, or with one voter more. -/
def State.ballot (s : State) (h : HostId) : Vote :=
  match s.vote with
  | some v => { v with voters := HostSet.insert v.voters h }
  | none => { voters := HostSet.insert noHosts h, opener := h, deadline := s.now + s.params.voteWindow }

theorem ballot_of_open {s : State} {v : Vote} (h : HostId) (hv : s.vote = some v) :
    s.ballot h = { v with voters := HostSet.insert v.voters h } := by
  rw [State.ballot, hv]

theorem ballot_of_none {s : State} (h : HostId) (hv : s.vote = none) :
    s.ballot h = { voters := HostSet.insert noHosts h, opener := h, deadline := s.now + s.params.voteWindow } := by
  rw [State.ballot, hv]

theorem ballot_voters (s : State) (h : HostId) : (s.ballot h).voters =
    match s.vote with
    | some v => HostSet.insert v.voters h
    | none => HostSet.insert noHosts h := by
  unfold State.ballot
  split <;> rfl

theorem ballot_voters_self (s : State) (h : HostId) : (s.ballot h).voters.read h = true := by
  rw [ballot_voters]
  split <;> simp

/-- The voters of a ballot are the host that casts it and those before it. -/
theorem eq_or_voted_of_ballot {s : State} {h g : HostId} (hg : (s.ballot h).voters.read g = true) :
    g = h ∨ ∃ v, s.vote = some v ∧ v.voters.read g = true := by
  cases hv : s.vote with
  | none => simpa [ballot_of_none h hv] using hg
  | some v => simpa [ballot_of_open h hv, or_iff_not_imp_left] using hg

theorem castVote_of_open {s : State} {v : Vote} (h : HostId) (hv : s.vote = some v) :
    castVote h s = { s with vote := some (s.ballot h) } := by
  rw [ballot_of_open h hv, castVote, hv]

theorem castVote_of_none {s : State} (h : HostId) (hv : s.vote = none) :
    castVote h s = postOthers h (.voteOpened h) { s with vote := some (s.ballot h) } := by
  rw [ballot_of_none h hv, castVote, hv]

/-- A ballot changes the vote and, where it opens one, the others' desks. -/
theorem castVote_eq (h : HostId) (s : State) :
    castVote h s = { s with vote := some (s.ballot h), desks := (castVote h s).desks } := by
  cases hv : s.vote with
  | none =>
    rw [castVote_of_none h hv]
    exact postOthers_toldOthers _ _ _
  | some v => rw [castVote_of_open h hv]

theorem castVote_vote (h : HostId) (s : State) : (castVote h s).vote = some (s.ballot h) := by
  rw [castVote_eq]

theorem castVote_isJoined (h g : HostId) (s : State) : (castVote h s).isJoined g = s.isJoined g := by
  rw [castVote_eq]
  rfl

theorem castVote_ignoresLinks (h : HostId) : IgnoresLinks (castVote h) := fun s L => by
  cases hv : s.vote with
  | none =>
    rw [castVote_of_none h hv, castVote_of_none h (s := s.withLinks L) hv]
    exact postOthers_ignoresLinks h _ { s with vote := some (s.ballot h) } L
  | some v =>
    rw [castVote_of_open h hv, castVote_of_open h (s := s.withLinks L) hv]
    rfl

theorem votersNeeded_castVote (h : HostId) (s : State) : (castVote h s).votersNeeded =
    ((List.finRange 4).filter (fun x => s.isJoined x && !(s.ballot h).voters.read x)).length := by
  simp only [State.votersNeeded, castVote_vote, castVote_isJoined]
  rfl

/-! ## The judgement (R162) -/

/-- While another JOINED host has not voted, the vote stays open. -/
theorem judgeVote_castVote_of_open {s : State} {h g : HostId} (hg : s.isJoined g = true)
    (hn : (s.ballot h).voters.read g = false) : judgeVote (castVote h s) = castVote h s :=
  judgeVote_of_open (castVote_vote h s) (ballot_voters_self s h) (by rwa [castVote_isJoined]) hn

/-- A vote is closed: no voters, opener or deadline (R160). -/
def State.voteClosed (s : State) : State := { s with vote := none }

/-- The last voter needed completes the vote. -/
theorem judgeVote_castVote_of_all {s : State} {h : HostId} (ha : (s.ballot h).voters = s.joinedHosts) :
    judgeVote (castVote h s) = exchangeClear (castVote h s).voteClosed := by
  have hempty : (s.ballot h).voters ≠ noHosts := fun he => by simpa [he] using ballot_voters_self s h
  have hall : (s.ballot h).voters = (castVote h s).joinedHosts :=
    ha.trans ((joinedHosts_iff _ _).2 fun g => by rw [joinedHosts_read, castVote_isJoined])
  rw [judgeVote, castVote_vote]
  dsimp only
  rw [if_neg hempty, if_pos hall]
  rfl

theorem votersNeeded_of_all {s : State} {h : HostId} (ha : (s.ballot h).voters = s.joinedHosts) :
    (castVote h s).votersNeeded = 0 := by
  rw [votersNeeded_castVote, ha]
  simp [joinedHosts_read]

/-! ## The clear and the links -/

/-- An exchange clear looks at neither the vote nor the desks, so not at a ballot cast before it. -/
theorem Cleared.of_castVote {h : HostId} {s t : State} (hc : Cleared (castVote h s).voteClosed t) : Cleared s t := by
  rw [castVote_eq] at hc
  exact ⟨hc.pool, hc.accounts, hc.tables, hc.turn, hc.vote, hc.links, hc.desks, hc.frame⟩

theorem exchangeClear_links (s : State) : (exchangeClear s).links = s.links.mapAll Link.cutOff :=
  Table.ext fun g => by rw [(cleared_exchangeClear s).links g, Table.read_mapAll]

/-- What the last result of an idle link is written to is the same before an exchange clear and after it. -/
theorem setLast_exchangeClear {h : HostId} {s : State} (hl : (s.links.read h).phase = .idle) (r : Reply) (k : Byte) :
    setLast h r k (exchangeClear s) = exchangeClear (setLast h r k s) := by
  have hlinks : (setLast h r k (exchangeClear s)).links = (setLast h r k s).links.mapAll Link.cutOff := by
    refine Table.ext fun g => ?_
    by_cases hg : g = h
    · subst hg
      simp [setLast, exchangeClear_links, cutOff_of_idle hl, cutOff_of_idle (l := { s.links.read g with
        lastResult := r.result, lastSerial := k, lastValue := r.value }) hl]
    · simp [setLast, exchangeClear_links, Table.read_update, hg]
  rw [setLast_withLinks h r k s, exchangeClear_withLinks, setLast_withLinks h r k (exchangeClear s), hlinks]

/-! ## The request -/

/-- What a ballot looks at is the same before the transaction ends and after. -/
theorem closeTransaction_views (h : HostId) (s : State) :
    (∀ g, (closeTransaction h s).isJoined g = s.isJoined g) ∧ (closeTransaction h s).joinedHosts = s.joinedHosts
      ∧ (closeTransaction h s).ballot h = s.ballot h := by
  rw [closeTransaction_withLinks]
  exact ⟨fun _ => rfl, rfl, rfl⟩

/-- A ballot cast, and the vote closed, on the ended transaction: the last result is written before or after. -/
theorem setLast_castVote (h : HostId) (r : Reply) (s : State) :
    setLast h r (s.links.read h).serial (castVote h (closeTransaction h s)).voteClosed =
      (castVote h (s.ended h r.result r.value)).voteClosed := by
  have hlinks : (castVote h (closeTransaction h s)).voteClosed.links = (closeTransaction h s).links := by
    rw [castVote_eq]
    rfl
  rw [setLast_eq r hlinks, ended_eq_withLinks, closeTransaction_withLinks, castVote_ignoresLinks, castVote_ignoresLinks]
  rfl

section
variable {s : State} {h : HostId} {r : Request} (hc : s.carries h .voteClear r) (hj : s.isJoined h = true)
include hc hj

theorem execVoteClear_of_open {g : HostId} (hg : s.isJoined g = true) (hn : (s.ballot h).voters.read g = false) :
    exec (.voteClear h) s = .next (castVote h (s.ended h .ok (BitVec.ofNat 16
      ((List.finRange 4).filter (fun x => s.isJoined x && !(s.ballot h).voters.read x)).length))) := by
  obtain ⟨hc, hk⟩ := hc
  obtain ⟨hjoined, -, hballot⟩ := closeTransaction_views h s
  show execVoteClear h s = _
  refine endRequest_of_ignoresLinks (reply := { result := .ok, value := _ }) hc (by simp [isKind, hk])
    (castVote_ignoresLinks h) ?_
  rw [ownerVoteClear, hjoined, if_pos hj, judgeVote_castVote_of_open ((hjoined g).trans hg) (hballot ▸ hn),
    votersNeeded_castVote, hballot]
  simp only [hjoined]
  rfl

theorem execVoteClear_of_all (ha : (s.ballot h).voters = s.joinedHosts) :
    exec (.voteClear h) s = .next (exchangeClear (castVote h (s.ended h .ok 0)).voteClosed) := by
  obtain ⟨hc, hk⟩ := hc
  obtain ⟨hjoined, hhosts, hballot⟩ := closeTransaction_views h s
  have ha' : ((closeTransaction h s).ballot h).voters = (closeTransaction h s).joinedHosts := by
    rw [hballot, hhosts, ha]
  have howner : ownerVoteClear h (s.links.read h) (closeTransaction h s) =
      accept (exchangeClear (castVote h (closeTransaction h s)).voteClosed) 0 := by
    rw [ownerVoteClear, hjoined, if_pos hj, judgeVote_castVote_of_all ha', votersNeeded_of_all ha']
    rfl
  have hidle : ((castVote h (closeTransaction h s)).voteClosed.links.read h).phase = .idle := by
    rw [castVote_eq, closeTransaction_eq]
    simp [State.voteClosed, State.setLink]
  show execVoteClear h s = _
  rw [execVoteClear, endRequest_of_carries hc (by simp [isKind, hk]), howner, accept, setLast_exchangeClear hidle,
    setLast_castVote]

end

/-- Settles O27: the ballot is judged; a JOINED host that has not voted keeps the vote open, and with none left the
exchange is cleared. -/
theorem voteClearVotesOrClears : Obligations.VoteClearVotesOrClears := by
  intro s h r hc hj
  refine ⟨fun g hg hgh hv => ?_, fun g v hg hgh hv hn => ?_, fun ha => ?_⟩
  · have hb := ballot_of_none h hv
    have hexec := execVoteClear_of_open hc hj hg (by simp [hb, hgh])
    rw [hb] at hexec
    refine ⟨_, hexec, ?_, fun x => ?_⟩
    · rw [castVote_eq, ballot_of_none h (by exact hv)]
      rfl
    · rw [castVote_of_none h (by exact hv), postOthers_desks]
      rfl
  · have hb := ballot_of_open h hv
    have hexec := execVoteClear_of_open hc hj hg (by simp [hb, hgh, hn])
    rw [hb] at hexec
    rw [hexec, castVote_of_open h (v := v) (by exact hv), ballot_of_open h (by exact hv)]
  · exact ⟨_, execVoteClear_of_all hc hj ((ballot_voters s h).trans ha), (cleared_exchangeClear _).of_castVote⟩

end Sys2Proof.Machine
end

section
/-! SUPPORT. The eleventh and the twelfth law through the shared operations: who has voted in an open vote, and how many
notices wait (R160, R162, R168). -/

namespace Sys2Proof.Machine

/-! ## What the laws look at -/

/-- A notice queue within its size (R168). -/
def Desk.Fits (d : Desk) : Prop := d.notices.length ≤ Config.noticeQueueSize

theorem twelfthLaw_iff (s : State) : twelfthLaw s ↔ ∀ g, (s.desks.read g).Fits := Iff.rfl

/-- A notice joins a queue only where there is room; elsewhere it is counted as lost (R168). -/
theorem Desk.fits_posted {d : Desk} (n : Notice) (hd : d.Fits) : (d.posted n).Fits := by
  unfold Desk.Fits Desk.posted
  dsimp only
  split
  · next hlt =>
    rw [List.length_append]
    exact hlt
  · exact hd

theorem Desk.Fits.of_notices_eq {d e : Desk} (he : e.notices = d.notices) (hd : d.Fits) : e.Fits := by
  rwa [Desk.Fits, he]

/-- An event keeps the eleventh law, and it keeps the twelfth. -/
structure KeepsVoteAndNotices (s t : State) : Prop where
  vote : eleventhLaw s → eleventhLaw t
  notices : twelfthLaw s → twelfthLaw t

namespace KeepsVoteAndNotices

variable {s t u : State}

theorem trans (hst : KeepsVoteAndNotices s t) (htu : KeepsVoteAndNotices t u) : KeepsVoteAndNotices s u :=
  ⟨fun hl => htu.vote (hst.vote hl), fun hl => htu.notices (hst.notices hl)⟩

/-- The vote is as it was, no host departs, and no queue outgrows its size. -/
theorem of_desks (hvote : t.vote = s.vote) (hjoined : ∀ g, s.isJoined g = true → t.isJoined g = true)
    (hdesks : ∀ g, (s.desks.read g).Fits → (t.desks.read g).Fits) : KeepsVoteAndNotices s t where
  vote hl v hv :=
    have ⟨hne, hvoters⟩ := hl v (hvote ▸ hv)
    ⟨hne, fun g hg => hjoined g (hvoters g hg)⟩
  notices hl g := hdesks g (hl g)

/-- Vote, host records and notice queues are as they were. -/
theorem of_notices (hvote : t.vote = s.vote) (hmembers : t.members = s.members)
    (hnotices : ∀ g, (t.desks.read g).notices = (s.desks.read g).notices) : KeepsVoteAndNotices s t :=
  of_desks hvote (fun g hg => by rwa [State.isJoined, hmembers]) fun g => .of_notices_eq (hnotices g)

theorem of_eq (hvote : t.vote = s.vote) (hmembers : t.members = s.members) (hdesks : t.desks = s.desks) :
    KeepsVoteAndNotices s t :=
  of_notices hvote hmembers fun g => by rw [hdesks]

theorem refl (s : State) : KeepsVoteAndNotices s s := of_eq rfl rfl rfl

theorem foldl {α : Type} {f : State → α → State} (hf : ∀ s a, KeepsVoteAndNotices s (f s a)) (l : List α) (s : State) :
    KeepsVoteAndNotices s (l.foldl f s) :=
  foldl_invariant (P := KeepsVoteAndNotices s) (fun t a ht => ht.trans (hf t a)) l (refl s)

theorem modDesk (s : State) (h : HostId) {f : Desk → Desk} (hf : ∀ d, d.Fits → (f d).Fits) :
    KeepsVoteAndNotices s (s.modDesk h f) := by
  refine of_desks rfl (fun _ hg => hg) fun g hd => ?_
  rw [State.modDesk_desks, Table.read_update]
  split
  · next hg => exact hf _ (hg ▸ hd)
  · exact hd

theorem modMember (s : State) (h : HostId) {f : Member → Member} (hf : ∀ x, (f x).state = x.state) :
    KeepsVoteAndNotices s (s.modMember h f) := by
  refine of_desks rfl (fun g hg => ?_) fun _ hd => hd
  rw [State.isJoined, State.modMember_members, Table.read_update]
  split
  · next hgh => rwa [hf, ← hgh]
  · exact hg

end KeepsVoteAndNotices

/-! ## Latches and notices -/

theorem keepsVoteAndNotices_latch (h : HostId) (c : Cause) (s : State) : KeepsVoteAndNotices s (latch h c s) :=
  .modDesk s h fun _ hd => hd

theorem keepsVoteAndNotices_modCounters (h : HostId) (f : Counters → Counters) (s : State) :
    KeepsVoteAndNotices s (s.modCounters h f) := .modDesk s h fun _ hd => hd

theorem keepsVoteAndNotices_post (h : HostId) (n : Notice) (s : State) : KeepsVoteAndNotices s (post h n s) := by
  unfold post
  split
  · exact .modDesk s h fun d hd => by
      rw [Desk.post_eq]
      exact Desk.fits_posted n hd
  · exact .refl s

theorem keepsVoteAndNotices_postAll (n : Notice) (s : State) : KeepsVoteAndNotices s (postAll n s) :=
  .foldl (fun s g => keepsVoteAndNotices_post g n s) allHosts s

theorem keepsVoteAndNotices_postOthers (h : HostId) (n : Notice) (s : State) :
    KeepsVoteAndNotices s (postOthers h n s) :=
  .foldl (fun s g => keepsVoteAndNotices_post g n s) _ s

theorem keepsVoteAndNotices_reportDrop (h : HostId) (n : Notice) (s : State) :
    KeepsVoteAndNotices s (reportDrop h n s) :=
  (keepsVoteAndNotices_modCounters h _ s).trans (keepsVoteAndNotices_post h n _)

/-! ## The arbiter -/

theorem keepsVoteAndNotices_reevaluate (s : State) : KeepsVoteAndNotices s (reevaluate s) := by
  obtain ⟨d, he, hd⟩ := reevaluate_eq s
  rw [he]
  refine .of_notices rfl rfl fun g => ?_
  rw [hd g]
  split <;> rfl

theorem keepsVoteAndNotices_endTurn (s : State) : KeepsVoteAndNotices s (endTurn s) := by
  refine .of_notices (by simp) (by simp) fun g => ?_
  rw [endTurn_eq_turnPassed]
  exact (Desk.of_ledger_eq (turnPassed_ledger s g)).1

theorem keepsVoteAndNotices_endTurnOf (h : HostId) (s : State) : KeepsVoteAndNotices s (endTurnOf h s) := by
  unfold endTurnOf
  split
  · split
    · exact keepsVoteAndNotices_endTurn s
    · exact .refl s
  · exact .refl s

/-! ## Cells, messages and entries -/

theorem keepsVoteAndNotices_judgeMark (h : HostId) (s : State) : KeepsVoteAndNotices s (judgeMark h s) := by
  unfold judgeMark
  split
  · split
    · exact .refl s
    split
    · exact .trans (t := s.modAccount h _) (.of_eq rfl rfl rfl) (keepsVoteAndNotices_latch h .credit _)
    · exact .refl s
  · split
    · exact .of_eq rfl rfl rfl
    · exact .refl s

theorem keepsVoteAndNotices_setCharge (h : HostId) (c : Nat) (s : State) :
    KeepsVoteAndNotices s (setCharge h c s) := by
  have hset : KeepsVoteAndNotices s (s.modAccount h (fun a => { a with charge := c })) := .of_eq rfl rfl rfl
  unfold setCharge
  dsimp only
  split
  · exact hset.trans (keepsVoteAndNotices_judgeMark h _)
  · exact hset

theorem keepsVoteAndNotices_release (m : MsgId) (s : State) : KeepsVoteAndNotices s (release m s) :=
  .of_notices (by simp) (by simp) fun g => (Desk.of_ledger_eq (release_ledger m s g)).1

theorem keepsVoteAndNotices_abortMessage (m : MsgId) (s : State) : KeepsVoteAndNotices s (abortMessage m s) := by
  have hmark : KeepsVoteAndNotices s (s.markAborted m) := .of_eq rfl rfl rfl
  have hreleased := hmark.trans (keepsVoteAndNotices_release m _)
  rw [abortMessage_eq]
  exact (hreleased.trans (keepsVoteAndNotices_modCounters (s.messages.read m).publisher _ _)).trans
    (keepsVoteAndNotices_endTurnOf _ _)

theorem keepsVoteAndNotices_removeEntry (h : HostId) (e : EntryId) (s : State) :
    KeepsVoteAndNotices s (removeEntry h e s) :=
  .of_notices (by simp) (by simp) fun g => (Desk.of_ledger_eq (removeEntry_ledger h e s g)).1

theorem keepsVoteAndNotices_removeEntries (h : HostId) (es : List EntryId) (s : State) :
    KeepsVoteAndNotices s (removeEntries h es s) := .foldl (fun s e => keepsVoteAndNotices_removeEntry h e s) es s

theorem keepsVoteAndNotices_freeSubscription (i : SubId) (s : State) :
    KeepsVoteAndNotices s (freeSubscription i s) := .of_eq rfl rfl rfl

theorem keepsVoteAndNotices_appendEntry (h : HostId) (m : MsgId) (i : SubId) (e : EntryId) (s : State) :
    KeepsVoteAndNotices s (appendEntry h m i e s) := by
  unfold appendEntry
  refine .trans ?_ (keepsVoteAndNotices_latch h .delivery _)
  exact .of_eq (by simp) (by simp) (by simp)

theorem keepsVoteAndNotices_deliver (m : MsgId) (h : HostId) (i : SubId) (s : State) :
    KeepsVoteAndNotices s (deliver m h i s) := by
  obtain ⟨-, e, -, ho⟩ | ⟨n, ho⟩ | ⟨-, -, e, -, ho⟩ := deliver_cases m h i s <;> rw [ho]
  · exact keepsVoteAndNotices_appendEntry h m i e s
  · exact keepsVoteAndNotices_reportDrop h n s
  · exact ((keepsVoteAndNotices_removeEntry h e s).trans (keepsVoteAndNotices_reportDrop h _ _)).trans
      (keepsVoteAndNotices_appendEntry h m i e _)

theorem keepsVoteAndNotices_createDeliveries (m : MsgId) (s : State) :
    KeepsVoteAndNotices s (createDeliveries m s) :=
  .foldl (fun s (t : HostId × SubId) => keepsVoteAndNotices_deliver m t.1 t.2 s) _ s

theorem keepsVoteAndNotices_chargeCells (m : MsgId) (k : Nat) (s : State) :
    KeepsVoteAndNotices s (chargeCells m k s) := by
  unfold chargeCells
  split
  · exact .refl s
  split
  · exact .refl s
  · next run t ht =>
    have htaken : KeepsVoteAndNotices s t := by
      unfold takeCells at ht
      split at ht <;> cases ht
      exact .of_eq (by simp) (by simp) (by simp)
    have hjudged := htaken.trans ((keepsVoteAndNotices_setCharge (t.messages.read m).publisher
      ((t.accounts.read (t.messages.read m).publisher).charge + k) t).trans (keepsVoteAndNotices_reevaluate _))
    exact hjudged.trans (.of_eq (by simp) (by simp) (by simp))

theorem keepsVoteAndNotices_appendBytes (m : MsgId) (bs : List Byte) (s : State) :
    KeepsVoteAndNotices s (appendBytes m bs s) := by
  refine (keepsVoteAndNotices_chargeCells m (newCells (s.messages.read m).length bs.length) s).trans ?_
  unfold appendBytes
  dsimp only
  split <;> exact .of_eq rfl rfl rfl

/-! ## Votes and clears -/

theorem keepsVoteAndNotices_voteClosed (s : State) : KeepsVoteAndNotices s s.voteClosed :=
  ⟨fun _ => nofun, id⟩

theorem keepsVoteAndNotices_exchangeClear (s : State) : KeepsVoteAndNotices s (exchangeClear s) := by
  have hc := cleared_exchangeClear s
  refine ⟨fun _ v hv => ?_, fun _ g => ?_⟩
  · cases hc.vote.symm.trans hv
  · rw [hc.desks g]
    split <;> simp [Config.noticeQueueSize]

theorem keepsVoteAndNotices_judgeVote (s : State) : KeepsVoteAndNotices s (judgeVote s) := by
  unfold judgeVote
  split
  · exact .refl s
  split
  · exact (keepsVoteAndNotices_voteClosed s).trans (keepsVoteAndNotices_postAll _ _)
  split
  · exact (keepsVoteAndNotices_voteClosed s).trans (keepsVoteAndNotices_exchangeClear _)
  · exact .refl s

/-- A ballot makes a JOINED host a voter (R161). -/
theorem keepsVoteAndNotices_castVote {h : HostId} {s : State} (hj : s.isJoined h = true) :
    KeepsVoteAndNotices s (castVote h s) where
  vote hl v hv := by
    rw [castVote_vote] at hv
    obtain rfl := Option.some.inj hv
    refine ⟨fun he => by simpa [he] using ballot_voters_self s h, fun g hg => ?_⟩
    rw [castVote_isJoined]
    obtain rfl | ⟨v, hv, hgv⟩ := eq_or_voted_of_ballot hg
    · exact hj
    · exact (hl v hv).2 g hgv
  notices hl := by
    cases hv : s.vote with
    | none =>
      rw [castVote_of_none h hv]
      exact (keepsVoteAndNotices_postOthers h _ { s with vote := some (s.ballot h) }).notices hl
    | some v =>
      rw [castVote_of_open h hv]
      exact hl

/-! ## Departures (R154) -/

/-- What is left of a departed host's vote is a voter set within the JOINED hosts, and an empty one closes the vote
(step 10 of R154). -/
theorem eleventhLaw_withdrawVote {h : HostId} {u : State} (hj : u.isJoined h = false)
    (hvoters : ∀ v, u.vote = some v → ∀ g, g ≠ h → v.voters.read g = true → u.isJoined g = true) :
    eleventhLaw (withdrawVote h u) := by
  intro w hw
  obtain ⟨hv, he⟩ | ⟨v, hv, ⟨-, he, -⟩ | ⟨⟨x, hx, hxv⟩, ⟨-, hc⟩ | ⟨-, he⟩⟩⟩ := withdrawVote_cases hj
  · rw [he, hv] at hw
    cases hw
  · rw [he] at hw
    cases hw
  · cases hc.vote.symm.trans hw
  · rw [he] at hw ⊢
    cases hw
    refine ⟨fun hn => ?_, fun g hg => ?_⟩
    · have hnone := (noHosts_iff _).1 hn x
      simp [hx, hxv] at hnone
    · rw [HostSet.read_erase] at hg
      split at hg
      · cases hg
      · next hgh => exact hvoters v hv g hgh hg

/-- Steps 1 to 9 of R154 empty the departing host's queue and change no other. -/
theorem twelfthLaw_dismantle {s : State} (hl : twelfthLaw s) (h : HostId) (final : Membership) :
    twelfthLaw (dismantle h final s) := by
  refine (twelfthLaw_iff _).2 fun g => ?_
  by_cases hg : g = h
  · subst hg
    simp [Desk.Fits, (dismantle_desk g final s).1]
  · exact .of_notices_eq (Desk.of_ledger_eq (dismantle_ledger h final s hg)).1 (hl g)

theorem twelfthLaw_withdrawVote {u : State} (hl : twelfthLaw u) (h : HostId) : twelfthLaw (withdrawVote h u) := by
  unfold withdrawVote
  exact (keepsVoteAndNotices_judgeVote _).notices hl

theorem keepsVoteAndNotices_teardown {final : Membership} (hf : final ≠ .joined) (h : HostId) (n : Notice)
    (s : State) : KeepsVoteAndNotices s (teardown h final n s) := by
  have htold := keepsVoteAndNotices_postAll n (withdrawVote h (dismantle h final s))
  rw [teardown_eq]
  constructor
  · intro hl
    refine htold.vote (eleventhLaw_withdrawVote (dismantle_isJoined_self h s hf) fun v hv g hg hgv => ?_)
    rw [dismantle_isJoined_ne h final s hg]
    exact (hl v (by simpa using hv)).2 g hgv
  · exact fun hl => htold.notices (twelfthLaw_withdrawVote (twelfthLaw_dismantle hl h final) h)

end Sys2Proof.Machine
end

section
/-! SUPPORT. The eleventh and the twelfth law through every command: what each request can leave, and the step lemma
(R160, R168). -/

namespace Sys2Proof.Machine

/-! ## Requests and reads -/

section
variable (h : HostId) (l : Link) (s : State)

/-- A joining host is one JOINED host more, with an empty notice queue (R149). -/
theorem keepsVoteAndNotices_admitted (r : Request) : KeepsVoteAndNotices s (s.admitted h r) := by
  unfold State.admitted
  refine .trans ?_ (keepsVoteAndNotices_postOthers h (.hostJoined h) _)
  refine .of_desks ?_ (fun g hg => ?_) fun g hd => ?_
  · rw [admitMember_eq]
  · rw [admitMember_isJoined, hg, Bool.or_true]
  · rw [admitMember_eq, Table.read_write]
    split
    · exact Nat.zero_le _
    · exact hd

theorem keepsVoteAndNotices_tellVote : KeepsVoteAndNotices s (tellVote h s) := by
  unfold tellVote
  split
  · exact (keepsVoteAndNotices_post h _ s).trans (keepsVoteAndNotices_judgeVote _)
  · exact .refl s

theorem keepsVoteAndNotices_ownerJoin : KeepsVoteAndNotices s (ownerJoin h l s).1 := by
  rw [ownerJoin_by_table]
  split
  · exact .refl s
  · exact (keepsVoteAndNotices_admitted h s l.request).trans (keepsVoteAndNotices_tellVote h _)

theorem keepsVoteAndNotices_ownerLeave : KeepsVoteAndNotices s (ownerLeave h l s).1 := by
  unfold ownerLeave
  split
  · rw [accept_fst]
    exact keepsVoteAndNotices_teardown (by decide) h _ s
  · exact .refl s

theorem keepsVoteAndNotices_ownerVoteClear : KeepsVoteAndNotices s (ownerVoteClear h l s).1 := by
  unfold ownerVoteClear
  split
  · next hj =>
    rw [accept_fst]
    exact (keepsVoteAndNotices_castVote hj).trans (keepsVoteAndNotices_judgeVote _)
  · exact .refl s

theorem keepsVoteAndNotices_storeThreshold (b : Word16) : KeepsVoteAndNotices s (storeThreshold h b s) := by
  have hstored : KeepsVoteAndNotices s (s.modMember h (fun x => { x with creditThreshold := b.toNat })) :=
    .modMember s h fun _ => rfl
  unfold storeThreshold
  dsimp only
  split
  · refine hstored.trans (.trans ?_ (keepsVoteAndNotices_latch h .credit _))
    exact .of_eq rfl rfl rfl
  · exact hstored

theorem keepsVoteAndNotices_storeReserve (b : Word16) :
    KeepsVoteAndNotices s (reevaluate { s with params := { s.params with reserveThreshold := b.toNat } }) := by
  refine .trans ?_ (keepsVoteAndNotices_reevaluate _)
  exact .of_eq rfl rfl rfl

theorem keepsVoteAndNotices_renewLease : KeepsVoteAndNotices s (renewLease h s) := by
  unfold renewLease
  split
  · exact .modMember s h fun _ => rfl
  · exact .refl s

theorem keepsVoteAndNotices_ownerAck : KeepsVoteAndNotices s (ownerAck h l s).1 := by
  unfold ownerAck
  dsimp only
  split
  · exact .refl s
  · exact .modDesk s h fun _ hd => hd

theorem keepsVoteAndNotices_ownerOpenChannel : KeepsVoteAndNotices s (ownerOpenChannel h l s).1 := by
  unfold ownerOpenChannel
  dsimp only
  split
  · exact .refl s
  split
  · exact .refl s
  split
  · split
    · exact .refl s
    split
    · exact .refl s
    · exact .of_eq rfl rfl rfl
  · exact .refl s

theorem keepsVoteAndNotices_closeChannel (c : ChanId) : KeepsVoteAndNotices s (closeChannel c s) := by
  have haborts : KeepsVoteAndNotices s (closeAborts c s) := by
    unfold closeAborts
    exact .foldl (fun s m => (keepsVoteAndNotices_abortMessage m s).trans (keepsVoteAndNotices_post _ _ _)) _ s
  have hsubs : KeepsVoteAndNotices (closeAborts c s) (closeSubscriptions c (closeAborts c s)) := by
    unfold closeSubscriptions
    exact .foldl (fun s i => (keepsVoteAndNotices_freeSubscription i s).trans (keepsVoteAndNotices_post _ _ _)) _ _
  have hclosed : ∀ u : State, KeepsVoteAndNotices u (u.modChannel c Channel.afterClose) := fun _ => .of_eq rfl rfl rfl
  exact (haborts.trans hsubs).trans (hclosed _)

theorem keepsVoteAndNotices_ownerCloseChannel : KeepsVoteAndNotices s (ownerCloseChannel h l s).1 := by
  unfold ownerCloseChannel
  dsimp only
  split
  · exact .refl s
  split
  · exact .refl s
  split
  · exact .refl s
  split
  · exact .refl s
  split
  · exact .refl s
  · exact keepsVoteAndNotices_closeChannel s _

theorem keepsVoteAndNotices_ownerSubscribe : KeepsVoteAndNotices s (ownerSubscribe h l s).1 := by
  obtain ho | ⟨c, i, p, -, -, -, -, ho⟩ := ownerSubscribe_leaves h l s <;> rw [ho]
  · exact .refl s
  · exact .of_eq rfl rfl rfl

theorem keepsVoteAndNotices_ownerUnsubscribe : KeepsVoteAndNotices s (ownerUnsubscribe h l s).1 := by
  obtain ⟨c, -, ho⟩ | ⟨-, i, -, ho⟩ := ownerUnsubscribe_cases h l s <;> rw [ho]
  · exact .refl s
  · exact (keepsVoteAndNotices_removeEntries h _ s).trans (keepsVoteAndNotices_freeSubscription i _)

theorem keepsVoteAndNotices_ownerRest (rest : SubState) : KeepsVoteAndNotices s (ownerRest h rest l s).1 := by
  obtain ⟨c, -, ho⟩ | ⟨-, i, -, ho⟩ := ownerRest_cases h rest l s <;> rw [ho]
  · exact .refl s
  · exact .of_eq rfl rfl rfl

theorem keepsVoteAndNotices_startMessage (r : Request) (i : ChanId) (m : MsgId) :
    KeepsVoteAndNotices s (startMessage h r i m s) := by
  have hmade : KeepsVoteAndNotices s ((s.modMessage m (fun _ => newMessage h r i (s.channels.read i))).modChannel i
      (fun x => { x with nextSequence := x.nextSequence + 1, liveCount := x.liveCount + 1 })) := .of_eq rfl rfl rfl
  unfold startMessage
  dsimp only
  split
  · exact hmade.trans (keepsVoteAndNotices_createDeliveries m _)
  · exact hmade

theorem keepsVoteAndNotices_ownerBegin : KeepsVoteAndNotices s (ownerBegin h l s).1 := by
  have harbitrated : KeepsVoteAndNotices s (arbitrate h s).1 := .of_eq (by simp) (by simp) (by simp)
  obtain ho | ho | ⟨i, m, -, ho⟩ := ownerBegin_cases h l s <;> rw [ho]
  · exact .refl s
  · exact harbitrated
  · exact harbitrated.trans (keepsVoteAndNotices_startMessage h _ _ i m)

theorem keepsVoteAndNotices_ownerPut : KeepsVoteAndNotices s (ownerPut h l s).1 := by
  unfold ownerPut
  dsimp only
  split
  · exact .refl s
  split
  · exact .refl s
  split
  · exact .refl s
  split
  · exact .refl s
  split
  · exact .refl s
  · exact keepsVoteAndNotices_appendBytes _ _ s

theorem keepsVoteAndNotices_sealMessage (m : MsgId) : KeepsVoteAndNotices s (sealMessage m s) := by
  have hsealed : KeepsVoteAndNotices s (s.modMessage m (fun x => { x with state := .sealed })) := .of_eq rfl rfl rfl
  unfold sealMessage
  dsimp only
  split
  · exact hsealed.trans (keepsVoteAndNotices_createDeliveries m _)
  · exact hsealed

theorem keepsVoteAndNotices_ownerSeal : KeepsVoteAndNotices s (ownerSeal h l s).1 := by
  unfold ownerSeal
  dsimp only
  split
  · exact .refl s
  split
  · exact .refl s
  next m _ =>
  split
  · exact .refl s
  · rw [accept_fst]
    have hreleased := (keepsVoteAndNotices_sealMessage s m).trans (keepsVoteAndNotices_release m _)
    exact (hreleased.trans (keepsVoteAndNotices_modCounters h _ _)).trans (keepsVoteAndNotices_endTurnOf h _)

theorem keepsVoteAndNotices_ownerAbort : KeepsVoteAndNotices s (ownerAbort h l s).1 := by
  unfold ownerAbort
  split
  · exact .refl s
  split
  · exact .refl s
  · exact keepsVoteAndNotices_abortMessage _ s

theorem keepsVoteAndNotices_ownerSkip : KeepsVoteAndNotices s (ownerSkip h l s).1 := by
  unfold ownerSkip
  split
  · exact .refl s
  split
  · exact .refl s
  · exact keepsVoteAndNotices_removeEntry h _ s

theorem keepsVoteAndNotices_answerTake (r : Request) : KeepsVoteAndNotices s (answerTake h r s) := by
  rw [answerTake_withLinks]
  exact .of_eq rfl rfl rfl

theorem keepsVoteAndNotices_commitTake (c : Commit) : KeepsVoteAndNotices s (commitTake h c s) := by
  unfold commitTake
  split
  · next e count last _ =>
    have hmoved : KeepsVoteAndNotices s (s.modEntry e (fun x => { x with offset := x.offset + count })) :=
      .of_eq rfl rfl rfl
    dsimp only
    split
    · exact (hmoved.trans (keepsVoteAndNotices_removeEntry h e _)).trans (keepsVoteAndNotices_modCounters h _ _)
    · exact hmoved
  · exact keepsVoteAndNotices_removeEntry h _ s
  · exact .refl s

/-- The record that was reported leaves the queue (R172). -/
theorem keepsVoteAndNotices_commitFetchNotice (c : Commit) : KeepsVoteAndNotices s (commitFetchNotice h c s) := by
  unfold commitFetchNotice
  split
  · refine .modDesk s h fun d hd => ?_
    unfold Desk.Fits
    dsimp only
    split
    · exact (List.length_tail ▸ Nat.sub_le _ _).trans hd
    · exact hd
  · exact .refl s

theorem keepsVoteAndNotices_commitReadCounter (c : Commit) : KeepsVoteAndNotices s (commitReadCounter h c s) := by
  unfold commitReadCounter
  split
  · exact keepsVoteAndNotices_modCounters h _ s
  · exact .refl s

theorem keepsVoteAndNotices_voidRead (p : Option PendingResult) : KeepsVoteAndNotices s (voidRead p s) := by
  rw [voidRead_eq]
  exact .of_eq rfl rfl rfl

theorem keepsVoteAndNotices_linkFault (f : LinkFault) (b : Byte) : KeepsVoteAndNotices s (linkFault h f b s) := by
  unfold linkFault
  refine .trans ?_ (keepsVoteAndNotices_latch h .linkError _)
  refine .trans ?_ (keepsVoteAndNotices_modCounters h _ _)
  exact .of_eq rfl rfl rfl

end

/-! ## The shared forms of a command -/

theorem keepsVoteAndNotices_linkBlind (s : State) : LinkBlind (KeepsVoteAndNotices s) :=
  fun _ _ hk => hk.trans (.of_eq rfl rfl rfl)

section
variable {s t : State} {h : HostId}

theorem keepsVoteAndNotices_of_withLinks (ht : t = s.withLinks t.links) : KeepsVoteAndNotices s t :=
  (keepsVoteAndNotices_linkBlind s).of_withLinks (.refl s) ht

theorem keepsVoteAndNotices_endRequest {which : Request → Bool} {owner : Link → State → State × Reply}
    (ho : ∀ l u, KeepsVoteAndNotices u (owner l u).1) (ht : endRequest h which owner s = .next t) :
    KeepsVoteAndNotices s t :=
  (keepsVoteAndNotices_linkBlind s).endRequest (.refl s) ht fun l u hu => hu.trans (ho l u)

theorem keepsVoteAndNotices_endRead {k : Kind} {owner : Commit → State → State}
    (ho : ∀ c u, KeepsVoteAndNotices u (owner c u)) (ht : endRead h k owner s = .next t) : KeepsVoteAndNotices s t :=
  (keepsVoteAndNotices_linkBlind s).endRead (.refl s) ht fun c u hu => hu.trans (ho c u)

/-- A good header renews a lease and is answered (R134). -/
theorem keepsVoteAndNotices_headerEnd {b : Byte} {which : Request → Bool} {answer : Request → State → State}
    (ht : headerEnd h b true which (fun r u => answer r (renewLease h u)) s = .next t)
    (ha : ∀ r u, KeepsVoteAndNotices u (answer r u)) : KeepsVoteAndNotices s t :=
  (keepsVoteAndNotices_linkBlind s).headerEnd (.refl s) ht fun r u hu =>
    (hu.trans (keepsVoteAndNotices_renewLease h u)).trans (ha r _)

theorem keepsVoteAndNotices_answerKind (r : Request) (u : State) : KeepsVoteAndNotices u (answerKind h r u) :=
  (keepsVoteAndNotices_linkBlind u).answerKind (fun _ => keepsVoteAndNotices_answerTake h u r) (.refl u)

/-- A SET of a host's own parameter. -/
theorem keepsVoteAndNotices_setOwn {which : Request → Bool} {inRange : Nat → Bool} {store : Word16 → State → State}
    (ht : endRequest h which (ownerSetOwn h inRange store) s = .next t)
    (hstore : ∀ b u, KeepsVoteAndNotices u (store b u)) : KeepsVoteAndNotices s t :=
  keepsVoteAndNotices_endRequest (fun l u =>
    ownerSetOwn_keeps (P := KeepsVoteAndNotices u) (fun b v hv => hv.trans (hstore b v)) (.refl u) h inRange l) ht

/-- A SET of an exchange-wide parameter. -/
theorem keepsVoteAndNotices_setShared {which : Request → Bool} {inRange : Nat → Bool}
    {store : Word16 → State → State} (ht : endRequest h which (ownerSetShared h inRange store) s = .next t)
    (hstore : ∀ b u, KeepsVoteAndNotices u (store b u)) : KeepsVoteAndNotices s t :=
  keepsVoteAndNotices_endRequest (fun l u =>
    ownerSetShared_keeps (P := KeepsVoteAndNotices u) (fun b v hv => hv.trans (hstore b v)) (.refl u) h inRange l) ht

/-! ## Reset, time and the expiries -/

theorem keepsVoteAndNotices_deviceReset (ht : execDeviceReset s = .next t) : KeepsVoteAndNotices s t := by
  cases ht
  exact ⟨fun _ => nofun, fun _ g => by simp [reset_desk, Desk.ready]⟩

theorem keepsVoteAndNotices_resetRelease (ht : execResetRelease s = .next t) : KeepsVoteAndNotices s t := by
  unfold execResetRelease at ht
  split at ht <;> cases ht
  exact .of_eq rfl rfl rfl

theorem keepsVoteAndNotices_timeStep (ht : execMillisecondTimeStep s = .next t) : KeepsVoteAndNotices s t := by
  obtain ⟨-, ho⟩ | ⟨-, -, ho⟩ | ⟨-, -, ho⟩ := execMillisecondTimeStep_cases s
  · rw [next_eq_of_eq ho ht]
    exact .refl s
  · cases ho.symm.trans ht
  · rw [next_eq_of_eq ho ht]
    exact .of_eq rfl rfl rfl

theorem keepsVoteAndNotices_leaseExpiry (ht : execLeaseExpiry h s = .next t) : KeepsVoteAndNotices s t := by
  obtain ⟨-, ho⟩ | ⟨-, ho⟩ := execLeaseExpiry_cases h s <;> rw [next_eq_of_eq ho ht]
  · exact keepsVoteAndNotices_teardown (by decide) h _ s
  · exact .refl s

theorem keepsVoteAndNotices_turnExpiry (ht : execTurnExpiry s = .next t) : KeepsVoteAndNotices s t := by
  obtain ⟨-, ho⟩ | ⟨-, g, d, -, ho⟩ | ⟨-, g, d, -, ho⟩ := execTurnExpiry_cases s <;> rw [next_eq_of_eq ho ht]
  · exact .refl s
  · exact (keepsVoteAndNotices_post g _ s).trans (keepsVoteAndNotices_endTurn _)
  · exact keepsVoteAndNotices_endTurn s

theorem keepsVoteAndNotices_voteDeadline (ht : execVoteDeadline s = .next t) : KeepsVoteAndNotices s t := by
  obtain ⟨-, ho⟩ | ⟨-, ho⟩ := execVoteDeadline_cases s <;> rw [next_eq_of_eq ho ht]
  · exact (keepsVoteAndNotices_voteClosed s).trans (keepsVoteAndNotices_postAll _ _)
  · exact .refl s

theorem keepsVoteAndNotices_transactionVoid (ht : execTransactionVoid h s = .next t) : KeepsVoteAndNotices s t := by
  unfold execTransactionVoid at ht
  dsimp only at ht
  split at ht
  · cases ht
    have hclosed : KeepsVoteAndNotices s (closeTransaction h s) := .of_eq (by simp) (by simp) (by simp)
    have hvoided := hclosed.trans (keepsVoteAndNotices_voidRead _ (s.links.read h).pendingResult)
    refine .trans ?_ (keepsVoteAndNotices_linkFault h _ _ _)
    exact hvoided.trans (keepsVoteAndNotices_of_withLinks (setLast_withLinks _ _ _ _))
  · exact (keepsVoteAndNotices_linkBlind s).deselectAfterEvent (.refl s) ht

/-- A bad header changes its link and reports a fault (R133). -/
theorem keepsVoteAndNotices_badHeader {b : Byte} (ht : execHeaderBadCheck h b s = .next t) :
    KeepsVoteAndNotices s t :=
  (keepsVoteAndNotices_linkBlind s).headerEnd (.refl s) ht fun r u hu => by
    refine .trans ?_ (keepsVoteAndNotices_linkFault h _ _ _)
    exact hu.trans (.of_eq rfl rfl rfl)

end

/-! ## The step -/

/-- Every command keeps the eleventh law, and it keeps the twelfth. -/
theorem keepsVoteAndNotices_exec {c : Instr} {s t : State} (ht : exec c s = .next t) : KeepsVoteAndNotices s t := by
  cases c with
  | deviceReset => exact keepsVoteAndNotices_deviceReset ht
  | selAsserted h => exact keepsVoteAndNotices_of_withLinks (execSelAsserted_withLinks ht)
  | headerGoodCheck h b =>
    rw [exec, execHeaderGoodCheck] at ht
    exact keepsVoteAndNotices_headerEnd ht fun r u => keepsVoteAndNotices_answerKind r u
  | headerBadCheck h b => exact keepsVoteAndNotices_badHeader ht
  | deselectInDiscard h => exact (keepsVoteAndNotices_linkBlind s).deselectAfterEvent (.refl s) ht
  | transactionVoid h => exact keepsVoteAndNotices_transactionVoid ht
  | unknownRequest h =>
    rw [exec, execUnknownRequest] at ht
    exact keepsVoteAndNotices_endRequest (fun _ u => .refl u) ht
  | join h => exact keepsVoteAndNotices_endRequest (keepsVoteAndNotices_ownerJoin h) ht
  | leave h => exact keepsVoteAndNotices_endRequest (keepsVoteAndNotices_ownerLeave h) ht
  | setLeasePeriod h =>
    rw [exec, execSetLeasePeriod] at ht
    exact keepsVoteAndNotices_setOwn ht fun _ u => .modMember u h fun _ => rfl
  | setAttentionMask h =>
    rw [exec, execSetAttentionMask] at ht
    exact keepsVoteAndNotices_setOwn ht fun _ u => .modMember u h fun _ => rfl
  | setCreditThreshold h =>
    rw [exec, execSetCreditThreshold] at ht
    exact keepsVoteAndNotices_setOwn ht fun b u => keepsVoteAndNotices_storeThreshold h u b
  | setReserveThreshold h =>
    rw [exec, execSetReserveThreshold] at ht
    exact keepsVoteAndNotices_setShared ht fun b u => keepsVoteAndNotices_storeReserve u b
  | setTurnWindow h =>
    rw [exec, execSetTurnWindow] at ht
    exact keepsVoteAndNotices_setShared ht fun _ _ => .of_eq rfl rfl rfl
  | setVoteWindow h =>
    rw [exec, execSetVoteWindow] at ht
    exact keepsVoteAndNotices_setShared ht fun _ _ => .of_eq rfl rfl rfl
  | setPrecedence h =>
    rw [exec, execSetPrecedence] at ht
    exact keepsVoteAndNotices_setShared ht fun _ _ => .of_eq rfl rfl rfl
  | setQuotaCeiling h =>
    rw [exec, execSetQuotaCeiling] at ht
    exact keepsVoteAndNotices_setShared ht fun _ _ => .of_eq rfl rfl rfl
  | get h b =>
    exact keepsVoteAndNotices_headerEnd ht fun r u => keepsVoteAndNotices_of_withLinks (answerGet_withLinks h r u)
  | voteClear h => exact keepsVoteAndNotices_endRequest (keepsVoteAndNotices_ownerVoteClear h) ht
  | ack h => exact keepsVoteAndNotices_endRequest (keepsVoteAndNotices_ownerAck h) ht
  | fetchNotice h b =>
    exact keepsVoteAndNotices_headerEnd ht fun r u =>
      keepsVoteAndNotices_of_withLinks (answerFetchNotice_withLinks h r u)
  | fetchNoticeCommit h => exact keepsVoteAndNotices_endRead (fun c u => keepsVoteAndNotices_commitFetchNotice h u c) ht
  | readCounter h b =>
    exact keepsVoteAndNotices_headerEnd ht fun r u =>
      keepsVoteAndNotices_of_withLinks (answerReadCounter_withLinks h r u)
  | readCounterCommit h => exact keepsVoteAndNotices_endRead (fun c u => keepsVoteAndNotices_commitReadCounter h u c) ht
  | openChannel h => exact keepsVoteAndNotices_endRequest (keepsVoteAndNotices_ownerOpenChannel h) ht
  | closeChannel h => exact keepsVoteAndNotices_endRequest (keepsVoteAndNotices_ownerCloseChannel h) ht
  | findChannel h b =>
    exact keepsVoteAndNotices_headerEnd ht fun r u =>
      keepsVoteAndNotices_of_withLinks (answerFindChannel_withLinks h r u)
  | subscribe h => exact keepsVoteAndNotices_endRequest (keepsVoteAndNotices_ownerSubscribe h) ht
  | unsubscribe h => exact keepsVoteAndNotices_endRequest (keepsVoteAndNotices_ownerUnsubscribe h) ht
  | suspend h => exact keepsVoteAndNotices_endRequest (fun l u => keepsVoteAndNotices_ownerRest h l u _) ht
  | resume h => exact keepsVoteAndNotices_endRequest (fun l u => keepsVoteAndNotices_ownerRest h l u _) ht
  | begin h => exact keepsVoteAndNotices_endRequest (keepsVoteAndNotices_ownerBegin h) ht
  | put h => exact keepsVoteAndNotices_endRequest (keepsVoteAndNotices_ownerPut h) ht
  | sealMsg h => exact keepsVoteAndNotices_endRequest (keepsVoteAndNotices_ownerSeal h) ht
  | abort h => exact keepsVoteAndNotices_endRequest (keepsVoteAndNotices_ownerAbort h) ht
  | take h b =>
    rw [exec, execTake] at ht
    exact keepsVoteAndNotices_headerEnd ht fun r u => keepsVoteAndNotices_answerTake h u r
  | takeCommit h => exact keepsVoteAndNotices_endRead (fun c u => keepsVoteAndNotices_commitTake h u c) ht
  | skip h => exact keepsVoteAndNotices_endRequest (keepsVoteAndNotices_ownerSkip h) ht
  | leaseExpiry h => exact keepsVoteAndNotices_leaseExpiry ht
  | turnExpiry => exact keepsVoteAndNotices_turnExpiry ht
  | voteDeadline => exact keepsVoteAndNotices_voteDeadline ht
  | headerByteArrival h b => exact keepsVoteAndNotices_of_withLinks (execHeaderByteArrival_withLinks ht)
  | payloadByteArrival h b => exact keepsVoteAndNotices_of_withLinks (execPayloadByteArrival_withLinks ht)
  | responseByteArrival h => exact keepsVoteAndNotices_of_withLinks (execResponseByteArrival_withLinks ht)
  | selectSeen h => exact keepsVoteAndNotices_of_withLinks (execSelectSeen_withLinks ht)
  | resetRelease => exact keepsVoteAndNotices_resetRelease ht
  | millisecondTimeStep => exact keepsVoteAndNotices_timeStep ht
  | getCommit h =>
    rw [exec, execGetCommit] at ht
    exact keepsVoteAndNotices_endRead (fun _ u => .refl u) ht
  | findChannelCommit h =>
    rw [exec, execFindChannelCommit] at ht
    exact keepsVoteAndNotices_endRead (fun _ u => .refl u) ht
  | setReadOnlyValue h =>
    rw [exec, execSetReadOnlyValue] at ht
    exact keepsVoteAndNotices_endRequest (fun _ u => .refl u) ht

/-- A step is the command at the front, or nothing; neither the laws nor the command look at the queue. -/
theorem keepsVoteAndNotices_step {s t : State} (ht : step s = .next t) : KeepsVoteAndNotices s t := by
  unfold step at ht
  split at ht
  · cases ht
    exact .refl s
  · next c rest _ =>
    exact .trans (t := { s with pending := rest }) (.of_eq rfl rfl rfl) (keepsVoteAndNotices_exec ht)

/-- Settles O51: a vote is judged wherever its voters change, and a notice joins a queue only where there is room. -/
theorem stepKeepsVoteAndNoticeLaws : Obligations.StepKeepsVoteAndNoticeLaws := fun _ _ ht =>
  ⟨(keepsVoteAndNotices_step ht).vote, (keepsVoteAndNotices_step ht).notices⟩

end Sys2Proof.Machine
end

section
/-! SUPPORT. Notices, attention and counters: what a posting leaves, ATN, the latches after an ACK, and the two reads of
the Notice Unit with their commits (R168, R171, R172, R175, R176, R180, R181). -/

namespace Sys2Proof.Machine

/-! ## Posting (R168) -/

section
variable {h : HostId} {s : State}

theorem post_of_joined (n : Notice) (hj : s.isJoined h = true) :
    post h n s = s.setDesk h ((s.desks.read h).posted n) := by
  rw [post_eq, if_pos hj]

theorem post_of_not_joined (n : Notice) (hj : s.isJoined h = false) : post h n s = s := by
  rw [post_eq, hj]
  rfl

theorem post_desk_of_joined (n : Notice) (hj : s.isJoined h = true) :
    (post h n s).desks.read h = (s.desks.read h).posted n := by
  rw [post_of_joined n hj]
  exact Table.read_write_self _ _ _

end

theorem Desk.posted_of_room (n : Notice) {d : Desk} (hd : d.notices.length < 16) :
    d.posted n = { d with notices := d.notices ++ [n], latches := { d.latches with notice := true } } := by
  simp [Desk.posted, hd]

theorem Desk.posted_of_full (n : Notice) {d : Desk} (hd : 16 ≤ d.notices.length) :
    d.posted n = { d with lost := min (d.lost + 1) 255, latches := { d.latches with notice := true } } := by
  simp [Desk.posted, Nat.not_lt.2 hd]

/-- Settles O30: the two rows of R168's table for a JOINED host, by the room in its queue, and the row of any other. -/
theorem noticeKeptLostOrDiscarded : Obligations.NoticeKeptLostOrDiscarded := by
  intro s h n
  refine ⟨fun hj hroom => ?_, fun hj hfull => ?_, post_of_not_joined n, fun hj => ⟨?_, ?_, ?_⟩⟩
  · rw [post_desk_of_joined n hj, Desk.posted_of_room n hroom]
    exact ⟨rfl, rfl, rfl⟩
  · have hlost : ∀ lost : Nat, min (lost + 1) 255 = if lost < 255 then lost + 1 else 255 := fun lost => by
      split <;> omega
    rw [post_desk_of_joined n hj, Desk.posted_of_full n hfull]
    exact ⟨rfl, hlost _, rfl⟩
  · rw [post_desk_of_joined n hj, post_of_joined n hj]
    rfl
  · rw [post_desk_of_joined n hj]
    rfl
  · rw [post_desk_of_joined n hj]
    rfl

/-! ## ATN (R175) -/

/-- Settles O31: the gate of R175, read as a proposition. -/
theorem attentionFollowsLatchesAndMask : Obligations.AttentionFollowsLatchesAndMask := by
  intro s h
  simp only [State.atn, atnOf, Bool.or_eq_true, Bool.and_eq_true, Bool.not_eq_true', or_assoc]

/-! ## ACK (R176) -/

/-- One latch, cleared if named and latched again over a queue that is not empty (steps 1 and 2 of R176). -/
theorem relatch_eq {α : Type} [DecidableEq α] (latched named : Bool) (queue : List α) :
    (latched && !named || named && !queue.isEmpty) = if named then decide (queue ≠ []) else latched := by
  cases named <;> cases queue <;> simp

theorem ackLatches_eq {α β : Type} [DecidableEq α] [DecidableEq β] (a : Word16) (queue : List α) (notices : List β)
    (l : Latches) :
    ackLatches a (!queue.isEmpty) (!notices.isEmpty) l =
      { delivery := if a.getLsbD 0 then decide (queue ≠ []) else l.delivery
        notice := if a.getLsbD 1 then decide (notices ≠ []) else l.notice
        credit := l.credit && !a.getLsbD 2, turn := l.turn && !a.getLsbD 3
        linkError := l.linkError && !a.getLsbD 4, ready := l.ready && !a.getLsbD 5 } := by
  simp only [ackLatches, Latches.without, relatch_eq]

/-- The attention-cause arrangement as a last value: one bit for each latch (R176, R184). -/
theorem latchWord_spec (l : Latches) :
    let v := word l.toNat
    v.getLsbD 0 = l.delivery ∧ v.getLsbD 1 = l.notice ∧ v.getLsbD 2 = l.credit ∧ v.getLsbD 3 = l.turn
      ∧ v.getLsbD 4 = l.linkError ∧ v.getLsbD 5 = l.ready ∧ v.toNat < 64 := by
  obtain ⟨delivery, notice, credit, turn, linkError, ready⟩ := l
  revert delivery notice credit turn linkError ready
  decide

theorem ownerAck_refused (h : HostId) {l : Link} (s : State) (ha : 64 ≤ l.request.a.toNat) :
    ownerAck h l s = refuse .badRequest s := by
  rw [ownerAck, if_pos ha]

theorem ownerAck_accepted {h : HostId} {l : Link} {s : State} {y : Latches} (ha : l.request.a.toNat < 64)
    (hy : ackLatches l.request.a (!(s.queues.read h).isEmpty) (!(s.desks.read h).notices.isEmpty)
      (s.desks.read h).latches = y) :
    ownerAck h l s = accept (s.setDesk h { s.desks.read h with latches := y }) (word y.toNat) := by
  subst hy
  rw [ownerAck, if_neg (Nat.not_le.2 ha)]
  rfl

/-- Settles O29, by the two cases of its owner; the last value is the latches left, bit by bit. -/
theorem ackClearsNamedLatches : Obligations.AckClearsNamedLatches := by
  rintro s h r ⟨hc, hk⟩
  have hw : isKind .ack r = true := by simp [isKind, hk]
  obtain ⟨-, -, -, rfl⟩ := id hc
  refine ⟨fun ha => ?_, fun ha => endRequest_refused hc hw (ownerAck_refused h (closeTransaction h s) ha)⟩
  have ho := ownerAck_accepted (h := h) (s := closeTransaction h s) ha (ackLatches_eq _ _ _ _)
  exact ⟨_, endRequest_accepted hc hw ho rfl, latchWord_spec _⟩

/-! ## FETCH_NOTICE (R171, R172, R186) -/

theorem fetchNotice_answer {s : State} {h : HostId} {b : Byte} {r : Request} (hm : s.meetsCheck h b r)
    (hk : r.kind = some .fetchNotice) :
    exec (.fetchNotice h b) s = .next (s.answered h b
      { response := noticeRecord (s.desks.read h).notices.head? (s.desks.read h).lost, result := .ok, value := 0
        commit := .fetchNotice (s.desks.read h).notices.head? (s.desks.read h).lost }) := by
  have hd : (renewLease h (captureByte h b s)).desks = s.desks := by simp
  show execFetchNotice h b s = _
  rw [execFetchNotice, headerEnd_of_meetsCheck hm (by simp [isKind, hk]), answerFetchNotice, hd, respond_after_header]

theorem commitFetchNotice_ignoresLinks (h : HostId) (c : Commit) : IgnoresLinks (commitFetchNotice h c) := by
  intro s L
  cases c <;> rfl

/-- A reported record is removed from the head, and the reported lost count is taken off (R172). -/
theorem commitFetchNotice_eq (h : HostId) (n : Option Notice) (lost : Nat) (s : State) :
    commitFetchNotice h (.fetchNotice n lost) s = s.setDesk h { s.desks.read h with
      notices := if n = none then (s.desks.read h).notices else (s.desks.read h).notices.drop 1
      lost := (s.desks.read h).lost - lost } := by
  cases n <;> simp [commitFetchNotice, State.modDesk, State.setDesk, Table.update]

/-- Settles O18: the answer and the commit by their equations, and the record of each kind by its layout. -/
theorem fetchNoticeAnswersThenRemoves : Obligations.FetchNoticeAnswersThenRemoves := by
  refine ⟨fun s h b r => ⟨fetchNotice_answer, fun p n lost hc hp => ?_⟩, fun lost g i key sequence tag reason => ?_⟩
  · show execFetchNoticeCommit h s = _
    rw [execFetchNoticeCommit, endRead_of_ignoresLinks hc (commitFetchNotice_ignoresLinks h _), hp,
      commitFetchNotice_eq]
    rfl
  · refine ⟨rfl, ?_, rfl, rfl, rfl, rfl, rfl, rfl, rfl, rfl, rfl⟩
    cases reason <;> rfl

/-! ## READ_COUNTER (R180, R181) -/

/-- The counters with their codes (R187). -/
def CounterId.codes : List (Nat × CounterId) :=
  [ (1, .published), (2, .bytesLow), (3, .bytesHigh), (4, .taken), (5, .dropped), (6, .aborted), (7, .linkErrors) ]

theorem CounterId.ofCode_eq_some_iff (a : Word16) (i : CounterId) :
    CounterId.ofCode a = some i ↔ (a.toNat, i) ∈ CounterId.codes := by
  constructor
  · intro ho
    unfold CounterId.ofCode at ho
    split at ho <;> cases ho <;> simp_all [CounterId.codes]
  · intro hm
    simp only [CounterId.codes, List.mem_cons, Prod.mk.injEq, List.not_mem_nil, or_false] at hm
    rcases hm with ⟨ha, rfl⟩ | ⟨ha, rfl⟩ | ⟨ha, rfl⟩ | ⟨ha, rfl⟩ | ⟨ha, rfl⟩ | ⟨ha, rfl⟩ | ⟨ha, rfl⟩ <;>
    simp [CounterId.ofCode, ha]

/-- What READ_COUNTER captures, under the code of each counter. -/
def Counters.captures (c : Counters) : List (Nat × CounterId × BitVec 40) :=
  CounterId.codes.map (fun x => (x.1, x.2, c.capture x.2))

theorem Counters.mem_captures (c : Counters) (a : Word16) (i : CounterId) (v : BitVec 40) :
    (a.toNat, i, v) ∈ c.captures ↔ CounterId.ofCode a = some i ∧ c.capture i = v := by
  simp only [Counters.captures, List.mem_map, Prod.mk.injEq, Prod.exists, CounterId.ofCode_eq_some_iff]
  exact ⟨fun ⟨_, _, hm, ha, hi, hv⟩ => ⟨ha ▸ hi ▸ hm, hi ▸ hv⟩, fun ⟨hm, hv⟩ => ⟨_, _, hm, rfl, rfl, hv⟩⟩

/-- The low 32 bits of a captured value, most significant byte first (R180). -/
theorem bytes32_counterValue (v : BitVec 40) : bytes32 (counterValue v) =
    [v.extractLsb' 24 8, v.extractLsb' 16 8, v.extractLsb' 8 8, v.extractLsb' 0 8] := by
  have hlow : ∀ k, k ≤ 24 → (v.setWidth 32).extractLsb' k 8 = v.extractLsb' k 8 := by
    intro k hk
    apply BitVec.eq_of_getLsbD_eq
    intro i hi
    have hin : k + i < 32 := by omega
    simp [BitVec.getLsbD_extractLsb', hin]
  rw [bytes32, counterValue, hlow 24 le_rfl, hlow 16 (by omega), hlow 8 (by omega), hlow 0 (by omega)]

section
variable {s : State} {h : HostId} {b : Byte} {r : Request} (hm : s.meetsCheck h b r)
  (hk : r.kind = some .readCounter)
include hm hk

theorem readCounter_of_counter {i : CounterId} (hi : CounterId.ofCode r.a = some i) :
    exec (.readCounter h b) s = .next (s.answered h b
      { response := bytes32 (counterValue ((s.desks.read h).counters.capture i)), result := .ok, value := 0
        commit := .readCounter i ((s.desks.read h).counters.capture i) }) := by
  have hd : (renewLease h (captureByte h b s)).desks = s.desks := by simp
  show execReadCounter h b s = _
  rw [execReadCounter, headerEnd_of_meetsCheck hm (by simp [isKind, hk]), answerReadCounter, hi, hd,
    ← respond_after_header]

theorem readCounter_of_no_counter (hi : CounterId.ofCode r.a = none) :
    exec (.readCounter h b) s = .next (s.answered h b (plainResponse (bytes32 0) .badRequest)) := by
  show execReadCounter h b s = _
  rw [execReadCounter, headerEnd_of_meetsCheck hm (by simp [isKind, hk]), answerReadCounter, hi,
    ← respond_after_header]

end

theorem commitReadCounter_ignoresLinks (h : HostId) (c : Commit) : IgnoresLinks (commitReadCounter h c) := by
  intro s L
  cases c <;> rfl

/-- The captured value is taken off its counter, and no other desk changes (R180, R181). -/
theorem commitReadCounter_eq (h : HostId) (i : CounterId) (v : BitVec 40) (s : State) :
    commitReadCounter h (.readCounter i v) s = s.setDesk h { s.desks.read h with
      counters := (s.desks.read h).counters.reduce v i } := rfl

/-- The high part of a captured BYTES is what is above its low 32 bits (R181). -/
theorem Counters.reduce_bytesLow (c : Counters) (v : BitVec 40) :
    c.reduce v .bytesLow = { c with bytes := c.bytes - v, highLatch := (v >>> 32).setWidth 8 } := by
  have hhigh : v.extractLsb' 32 8 = (v >>> 32).setWidth 8 := by
    apply BitVec.eq_of_getLsbD_eq
    intro i hi
    simp [BitVec.getLsbD_extractLsb', BitVec.getLsbD_setWidth, BitVec.getLsbD_ushiftRight]
  rw [Counters.reduce, hhigh]

/-- Settles O19: the statement's table is that of the captured values, and the commit takes off what was captured. -/
theorem readCounterCapturesThenReduces : Obligations.ReadCounterCapturesThenReduces := by
  intro s h b r
  have hcommit : ∀ p, s.carriesRead h .readCounter p → exec (.readCounterCommit h) s =
      .next (commitReadCounter h p.commit (s.ended h p.result p.value)) := fun p hc =>
    endRead_of_ignoresLinks hc (commitReadCounter_ignoresLinks h p.commit)
  refine ⟨fun hm hk => ⟨fun i v hv => ?_, fun hnone => ?_⟩, fun p hc hp => ?_, fun p i v hc hp => ?_⟩
  · obtain ⟨hi, rfl⟩ := ((s.desks.read h).counters.mem_captures r.a i v).1 hv
    rw [readCounter_of_counter hm hk hi, bytes32_counterValue]
  · have hno : CounterId.ofCode r.a = none := Option.eq_none_iff_forall_ne_some.2 fun i hi =>
      hnone i _ (((s.desks.read h).counters.mem_captures r.a i _).2 ⟨hi, rfl⟩)
    rw [readCounter_of_no_counter hm hk hno]
    rfl
  · rw [hcommit p hc, hp]
    rfl
  · have hreduced : ∀ j, i = j → exec (.readCounterCommit h) s = .next ((s.ended h p.result p.value).setDesk h
        { s.desks.read h with counters := (s.desks.read h).counters.reduce v j }) := by
      rintro j rfl
      rw [hcommit p hc, hp, commitReadCounter_eq]
      rfl
    refine ⟨hreduced _, fun hi => ?_, hreduced _, hreduced _, hreduced _, hreduced _, hreduced _⟩
    rw [hreduced _ hi, Counters.reduce_bytesLow]

end Sys2Proof.Machine
end

section
/-! SUPPORT. The queue and the time through every command: what each request leaves of them, and the frame of `exec`
(R188). -/

namespace Sys2Proof.Machine

/-- The commands that wait, and the millisecond time. -/
def State.queueAndTime (s : State) : List Instr × Nat := (s.pending, s.now)

@[simp] theorem queueAndTime_eq_iff (s t : State) :
    t.queueAndTime = s.queueAndTime ↔ t.pending = s.pending ∧ t.now = s.now := Prod.mk_inj

/-! ## What each request leaves -/

section
variable (h : HostId) (l : Link) (s : State)

theorem admitted_queueAndTime (r : Request) : (s.admitted h r).queueAndTime = s.queueAndTime := by
  simp [State.admitted, admitMember]

theorem tellVote_queueAndTime : (tellVote h s).queueAndTime = s.queueAndTime := by
  unfold tellVote
  split <;> simp

theorem ownerJoin_queueAndTime : (ownerJoin h l s).1.queueAndTime = s.queueAndTime := by
  rw [ownerJoin_by_table]
  split
  · rfl
  · exact (tellVote_queueAndTime h _).trans (admitted_queueAndTime h s l.request)

theorem ownerLeave_queueAndTime : (ownerLeave h l s).1.queueAndTime = s.queueAndTime := by
  unfold ownerLeave
  split
  · simp
  · rfl

theorem castVote_queueAndTime : (castVote h s).queueAndTime = s.queueAndTime := by
  unfold castVote
  split <;> simp

theorem ownerVoteClear_queueAndTime : (ownerVoteClear h l s).1.queueAndTime = s.queueAndTime := by
  have hjudged : (judgeVote (castVote h s)).queueAndTime = (castVote h s).queueAndTime := by simp
  unfold ownerVoteClear
  split
  · exact hjudged.trans (castVote_queueAndTime h s)
  · rfl

theorem storeThreshold_queueAndTime (b : Word16) : (storeThreshold h b s).queueAndTime = s.queueAndTime := by
  unfold storeThreshold
  dsimp only
  split <;> simp

theorem ownerAck_queueAndTime : (ownerAck h l s).1.queueAndTime = s.queueAndTime := by
  unfold ownerAck
  dsimp only
  split <;> rfl

theorem ownerOpenChannel_queueAndTime : (ownerOpenChannel h l s).1.queueAndTime = s.queueAndTime := by
  unfold ownerOpenChannel
  dsimp only
  repeat' split
  all_goals rfl

/-- A close aborts messages, frees subscriptions and posts notices, and changes the channel (R35 to R37). -/
theorem closeChannel_queueAndTime (c : ChanId) : (closeChannel c s).queueAndTime = s.queueAndTime := by
  have haborts : (closeAborts c s).queueAndTime = s.queueAndTime :=
    foldl_keeps State.queueAndTime _ _ _ (by simp [closeAbort])
  have hsubs : (closeSubscriptions c (closeAborts c s)).queueAndTime = (closeAborts c s).queueAndTime :=
    foldl_keeps State.queueAndTime _ _ _ (by simp [closeSubscription])
  exact hsubs.trans haborts

theorem ownerCloseChannel_queueAndTime : (ownerCloseChannel h l s).1.queueAndTime = s.queueAndTime := by
  unfold ownerCloseChannel
  dsimp only
  split
  · rfl
  split
  · rfl
  split
  · rfl
  split
  · rfl
  split
  · rfl
  · exact closeChannel_queueAndTime s _

theorem ownerSubscribe_queueAndTime : (ownerSubscribe h l s).1.queueAndTime = s.queueAndTime := by
  obtain ho | ⟨c, i, p, -, -, -, -, ho⟩ := ownerSubscribe_leaves h l s <;> rw [ho]
  rfl

theorem ownerUnsubscribe_queueAndTime : (ownerUnsubscribe h l s).1.queueAndTime = s.queueAndTime := by
  obtain ⟨c, -, ho⟩ | ⟨-, i, -, ho⟩ := ownerUnsubscribe_cases h l s <;> rw [ho]
  · rfl
  · simp

theorem ownerRest_queueAndTime (rest : SubState) : (ownerRest h rest l s).1.queueAndTime = s.queueAndTime := by
  obtain ⟨c, -, ho⟩ | ⟨-, i, -, ho⟩ := ownerRest_cases h rest l s <;> rw [ho] <;> rfl

theorem startMessage_queueAndTime (r : Request) (i : ChanId) (m : MsgId) :
    (startMessage h r i m s).queueAndTime = s.queueAndTime := by
  unfold startMessage
  dsimp only
  split <;> simp

theorem ownerBegin_queueAndTime : (ownerBegin h l s).1.queueAndTime = s.queueAndTime := by
  have harbitrated : (arbitrate h s).1.queueAndTime = s.queueAndTime := by simp
  obtain ho | ho | ⟨i, m, -, ho⟩ := ownerBegin_cases h l s <;> rw [ho]
  · exact harbitrated
  · exact (startMessage_queueAndTime h _ _ i m).trans harbitrated

theorem ownerPut_queueAndTime : (ownerPut h l s).1.queueAndTime = s.queueAndTime := by
  unfold ownerPut
  dsimp only
  split
  · rfl
  split
  · rfl
  split
  · rfl
  split
  · rfl
  split
  · rfl
  · simp

theorem sealMessage_queueAndTime (m : MsgId) : (sealMessage m s).queueAndTime = s.queueAndTime := by
  unfold sealMessage
  dsimp only
  split <;> simp

theorem ownerSeal_queueAndTime : (ownerSeal h l s).1.queueAndTime = s.queueAndTime := by
  have hended : ∀ m n u, (endTurnOf h (countSeal h n (release m u))).queueAndTime = u.queueAndTime := by simp
  unfold ownerSeal
  dsimp only
  split
  · rfl
  split
  · rfl
  split
  · rfl
  · exact (hended _ _ _).trans (sealMessage_queueAndTime s _)

theorem ownerAbort_queueAndTime : (ownerAbort h l s).1.queueAndTime = s.queueAndTime := by
  unfold ownerAbort
  split
  · rfl
  split
  · rfl
  · simp

theorem ownerSkip_queueAndTime : (ownerSkip h l s).1.queueAndTime = s.queueAndTime := by
  unfold ownerSkip
  split
  · rfl
  split
  · rfl
  · simp

/-! ## The reads -/

theorem answerTake_queueAndTime (r : Request) : (answerTake h r s).queueAndTime = s.queueAndTime := by
  rw [answerTake_withLinks]
  rfl

theorem commitTake_queueAndTime (c : Commit) : (commitTake h c s).queueAndTime = s.queueAndTime := by
  unfold commitTake
  split
  · dsimp only
    split <;> simp
  · simp
  · rfl

theorem commitFetchNotice_queueAndTime (c : Commit) : (commitFetchNotice h c s).queueAndTime = s.queueAndTime := by
  unfold commitFetchNotice
  split <;> rfl

theorem commitReadCounter_queueAndTime (c : Commit) : (commitReadCounter h c s).queueAndTime = s.queueAndTime := by
  unfold commitReadCounter
  split <;> rfl

end

/-! ## The shared forms of a command -/

theorem queueAndTime_linkBlind (q : List Instr × Nat) : LinkBlind (fun u => u.queueAndTime = q) := fun _ _ hq => hq

section
variable {s t : State} {h : HostId}

theorem queueAndTime_of_withLinks (ht : t = s.withLinks t.links) : t.queueAndTime = s.queueAndTime :=
  (queueAndTime_linkBlind _).of_withLinks rfl ht

theorem deselectAfterEvent_queueAndTime (ht : deselectAfterEvent h s = .next t) :
    t.queueAndTime = s.queueAndTime :=
  (queueAndTime_linkBlind _).deselectAfterEvent rfl ht

theorem endRequest_queueAndTime {which : Request → Bool} {owner : Link → State → State × Reply}
    (ho : ∀ l u, (owner l u).1.queueAndTime = u.queueAndTime) (ht : endRequest h which owner s = .next t) :
    t.queueAndTime = s.queueAndTime :=
  (queueAndTime_linkBlind _).endRequest rfl ht fun l u hu => (ho l u).trans hu

theorem endRead_queueAndTime {k : Kind} {owner : Commit → State → State}
    (ho : ∀ c u, (owner c u).queueAndTime = u.queueAndTime) (ht : endRead h k owner s = .next t) :
    t.queueAndTime = s.queueAndTime :=
  (queueAndTime_linkBlind _).endRead rfl ht fun c u hu => (ho c u).trans hu

/-- A good header renews a lease and is answered (R134). -/
theorem goodHeader_queueAndTime {b : Byte} {which : Request → Bool} {answer : Request → State → State}
    (ht : headerEnd h b true which (fun r u => answer r (renewLease h u)) s = .next t)
    (ha : ∀ r u, (answer r u).queueAndTime = u.queueAndTime) : t.queueAndTime = s.queueAndTime := by
  have hrenewed : ∀ u, (renewLease h u).queueAndTime = u.queueAndTime := by simp
  exact (queueAndTime_linkBlind _).headerEnd rfl ht fun r u hu => ((ha r _).trans (hrenewed u)).trans hu

theorem answerKind_queueAndTime (r : Request) (u : State) : (answerKind h r u).queueAndTime = u.queueAndTime :=
  (queueAndTime_linkBlind _).answerKind (fun _ => answerTake_queueAndTime h u r) rfl

theorem setOwn_queueAndTime {which : Request → Bool} {inRange : Nat → Bool} {store : Word16 → State → State}
    (ht : endRequest h which (ownerSetOwn h inRange store) s = .next t)
    (hstore : ∀ b u, (store b u).queueAndTime = u.queueAndTime) : t.queueAndTime = s.queueAndTime :=
  endRequest_queueAndTime (fun l u =>
    ownerSetOwn_keeps (P := fun v => v.queueAndTime = u.queueAndTime) (fun b v hv => (hstore b v).trans hv) rfl h
      inRange l) ht

theorem setShared_queueAndTime {which : Request → Bool} {inRange : Nat → Bool} {store : Word16 → State → State}
    (ht : endRequest h which (ownerSetShared h inRange store) s = .next t)
    (hstore : ∀ b u, (store b u).queueAndTime = u.queueAndTime) : t.queueAndTime = s.queueAndTime :=
  endRequest_queueAndTime (fun l u =>
    ownerSetShared_keeps (P := fun v => v.queueAndTime = u.queueAndTime) (fun b v hv => (hstore b v).trans hv) rfl h
      inRange l) ht

/-! ## Faults, the expiries, reset and the time -/

theorem headerBadCheck_queueAndTime {b : Byte} (ht : execHeaderBadCheck h b s = .next t) :
    t.queueAndTime = s.queueAndTime :=
  (queueAndTime_linkBlind _).headerEnd rfl ht fun r u hu => by simpa using hu

theorem transactionVoid_queueAndTime (ht : execTransactionVoid h s = .next t) : t.queueAndTime = s.queueAndTime := by
  unfold execTransactionVoid at ht
  dsimp only at ht
  split at ht
  · cases ht
    simp [voidRead_eq]
  · exact deselectAfterEvent_queueAndTime ht

theorem leaseExpiry_queueAndTime (ht : execLeaseExpiry h s = .next t) : t.queueAndTime = s.queueAndTime := by
  obtain ⟨-, ho⟩ | ⟨-, ho⟩ := execLeaseExpiry_cases h s <;> rw [next_eq_of_eq ho ht]
  simp

theorem turnExpiry_queueAndTime (ht : execTurnExpiry s = .next t) : t.queueAndTime = s.queueAndTime := by
  obtain ⟨-, ho⟩ | ⟨-, g, d, -, ho⟩ | ⟨-, g, d, -, ho⟩ := execTurnExpiry_cases s <;> rw [next_eq_of_eq ho ht]
  · simp
  · simp

theorem voteDeadline_queueAndTime (ht : execVoteDeadline s = .next t) : t.queueAndTime = s.queueAndTime := by
  obtain ⟨-, ho⟩ | ⟨-, ho⟩ := execVoteDeadline_cases s <;> rw [next_eq_of_eq ho ht]
  simp

/-- The starting state keeps queue and time (notes/assumptions/1.md, notes/assumptions/8.md). -/
theorem deviceReset_queueAndTime (ht : execDeviceReset s = .next t) : t.queueAndTime = s.queueAndTime := by
  cases ht
  rfl

theorem resetRelease_pending (ht : execResetRelease s = .next t) : t.pending = s.pending := by
  unfold execResetRelease at ht
  split at ht <;> cases ht
  rfl

theorem millisecondTimeStep_pending (ht : execMillisecondTimeStep s = .next t) : t.pending = s.pending := by
  obtain ⟨-, ho⟩ | ⟨-, -, ho⟩ | ⟨-, -, ho⟩ := execMillisecondTimeStep_cases s
  · rw [next_eq_of_eq ho ht]
  · cases ho.symm.trans ht
  · rw [next_eq_of_eq ho ht]

end

/-! ## The commands -/

/-- Every command but the two that move the time keeps queue and time. -/
theorem exec_queueAndTime {c : Instr} {s t : State} (ht : exec c s = .next t) (hstep : c ≠ .millisecondTimeStep)
    (hrelease : c ≠ .resetRelease) : t.queueAndTime = s.queueAndTime := by
  cases c with
  | millisecondTimeStep => exact absurd rfl hstep
  | resetRelease => exact absurd rfl hrelease
  | deviceReset => exact deviceReset_queueAndTime ht
  | selAsserted h => exact queueAndTime_of_withLinks (execSelAsserted_withLinks ht)
  | headerByteArrival h b => exact queueAndTime_of_withLinks (execHeaderByteArrival_withLinks ht)
  | payloadByteArrival h b => exact queueAndTime_of_withLinks (execPayloadByteArrival_withLinks ht)
  | responseByteArrival h => exact queueAndTime_of_withLinks (execResponseByteArrival_withLinks ht)
  | selectSeen h => exact queueAndTime_of_withLinks (execSelectSeen_withLinks ht)
  | headerBadCheck h b => exact headerBadCheck_queueAndTime ht
  | transactionVoid h => exact transactionVoid_queueAndTime ht
  | deselectInDiscard h => exact deselectAfterEvent_queueAndTime ht
  | leaseExpiry h => exact leaseExpiry_queueAndTime ht
  | turnExpiry => exact turnExpiry_queueAndTime ht
  | voteDeadline => exact voteDeadline_queueAndTime ht
  | headerGoodCheck h b =>
    rw [exec, execHeaderGoodCheck] at ht
    exact goodHeader_queueAndTime ht answerKind_queueAndTime
  | get h b => exact goodHeader_queueAndTime ht fun r u => queueAndTime_of_withLinks (answerGet_withLinks h r u)
  | fetchNotice h b =>
    exact goodHeader_queueAndTime ht fun r u => queueAndTime_of_withLinks (answerFetchNotice_withLinks h r u)
  | readCounter h b =>
    exact goodHeader_queueAndTime ht fun r u => queueAndTime_of_withLinks (answerReadCounter_withLinks h r u)
  | findChannel h b =>
    exact goodHeader_queueAndTime ht fun r u => queueAndTime_of_withLinks (answerFindChannel_withLinks h r u)
  | take h b => exact goodHeader_queueAndTime ht fun r u => answerTake_queueAndTime h u r
  | getCommit h =>
    rw [exec, execGetCommit] at ht
    exact endRead_queueAndTime (fun _ _ => rfl) ht
  | fetchNoticeCommit h => exact endRead_queueAndTime (fun c u => commitFetchNotice_queueAndTime h u c) ht
  | readCounterCommit h => exact endRead_queueAndTime (fun c u => commitReadCounter_queueAndTime h u c) ht
  | findChannelCommit h =>
    rw [exec, execFindChannelCommit] at ht
    exact endRead_queueAndTime (fun _ _ => rfl) ht
  | takeCommit h => exact endRead_queueAndTime (fun c u => commitTake_queueAndTime h u c) ht
  | unknownRequest h =>
    rw [exec, execUnknownRequest] at ht
    exact endRequest_queueAndTime (fun _ _ => rfl) ht
  | setReadOnlyValue h =>
    rw [exec, execSetReadOnlyValue] at ht
    exact endRequest_queueAndTime (fun _ _ => rfl) ht
  | setLeasePeriod h =>
    rw [exec, execSetLeasePeriod] at ht
    exact setOwn_queueAndTime ht fun _ _ => rfl
  | setAttentionMask h =>
    rw [exec, execSetAttentionMask] at ht
    exact setOwn_queueAndTime ht fun _ _ => rfl
  | setCreditThreshold h =>
    rw [exec, execSetCreditThreshold] at ht
    exact setOwn_queueAndTime ht fun b u => storeThreshold_queueAndTime h u b
  | setReserveThreshold h =>
    rw [exec, execSetReserveThreshold] at ht
    exact setShared_queueAndTime ht fun _ _ => by simp
  | setTurnWindow h =>
    rw [exec, execSetTurnWindow] at ht
    exact setShared_queueAndTime ht fun _ _ => rfl
  | setVoteWindow h =>
    rw [exec, execSetVoteWindow] at ht
    exact setShared_queueAndTime ht fun _ _ => rfl
  | setPrecedence h =>
    rw [exec, execSetPrecedence] at ht
    exact setShared_queueAndTime ht fun _ _ => rfl
  | setQuotaCeiling h =>
    rw [exec, execSetQuotaCeiling] at ht
    exact setShared_queueAndTime ht fun _ _ => rfl
  | join h => exact endRequest_queueAndTime (ownerJoin_queueAndTime h) ht
  | leave h => exact endRequest_queueAndTime (ownerLeave_queueAndTime h) ht
  | voteClear h => exact endRequest_queueAndTime (ownerVoteClear_queueAndTime h) ht
  | ack h => exact endRequest_queueAndTime (ownerAck_queueAndTime h) ht
  | openChannel h => exact endRequest_queueAndTime (ownerOpenChannel_queueAndTime h) ht
  | closeChannel h => exact endRequest_queueAndTime (ownerCloseChannel_queueAndTime h) ht
  | subscribe h => exact endRequest_queueAndTime (ownerSubscribe_queueAndTime h) ht
  | unsubscribe h => exact endRequest_queueAndTime (ownerUnsubscribe_queueAndTime h) ht
  | suspend h => exact endRequest_queueAndTime (fun l u => ownerRest_queueAndTime h l u _) ht
  | resume h => exact endRequest_queueAndTime (fun l u => ownerRest_queueAndTime h l u _) ht
  | begin h => exact endRequest_queueAndTime (ownerBegin_queueAndTime h) ht
  | put h => exact endRequest_queueAndTime (ownerPut_queueAndTime h) ht
  | sealMsg h => exact endRequest_queueAndTime (ownerSeal_queueAndTime h) ht
  | abort h => exact endRequest_queueAndTime (ownerAbort_queueAndTime h) ht
  | skip h => exact endRequest_queueAndTime (ownerSkip_queueAndTime h) ht

/-- The two commands that move the time leave the queue alone too. -/
theorem exec_pending {c : Instr} {s t : State} (ht : exec c s = .next t) : t.pending = s.pending := by
  by_cases hstep : c = .millisecondTimeStep
  · subst hstep
    exact millisecondTimeStep_pending ht
  by_cases hrelease : c = .resetRelease
  · subst hrelease
    exact resetRelease_pending ht
  exact ((queueAndTime_eq_iff s t).1 (exec_queueAndTime ht hstep hrelease)).1

/-- Settles O2: the queue through every command, and the time through every command but the two that move it. -/
theorem execKeepsQueueAndTime : Obligations.ExecKeepsQueueAndTime := fun _ s t ht =>
  ⟨exec_pending ht, fun hstep hrelease => ((queueAndTime_eq_iff s t).1 (exec_queueAndTime ht hstep hrelease)).2⟩

end Sys2Proof.Machine
end


section
/-! SUPPORT. What a step does by the form of the queue: an equation for a waiting command and one for an empty queue. -/

namespace Sys2Proof.Machine

theorem step_of_pending_cons {c : Instr} {rest : List Instr} {s : State} (hs : s.pending = c :: rest) :
    step s = exec c { s with pending := rest } := by
  rw [step, hs]

/-- The model's choice for an empty queue (notes/assumptions/1.md). -/
theorem step_of_pending_nil {s : State} (hs : s.pending = []) : step s = .next s := by
  rw [step, hs]

/-- Settles O1: one equation for each form of the queue. -/
theorem stepTakesFrontCommand : Obligations.StepTakesFrontCommand :=
  ⟨fun _ _ _ => step_of_pending_cons, fun _ => step_of_pending_nil⟩

end Sys2Proof.Machine
end

section
/-! SUPPORT. What a command can do, said once: its elementary effects, each with what its checks have established, and
that every command is a run of them. A law that every effect keeps is kept by every step. -/

namespace Sys2Proof.Machine

/-! ## The links -/

/-- What a framer's step, a deselect, a void or a result may make of a link: the last link error stays, and a pending
result is dropped or goes on waiting. -/
structure Link.Settles (l l' : Link) : Prop where
  fault : l'.lastFault = l.lastFault ∧ l'.faultSerial = l.faultSerial
  pending : l'.pendingResult = none
    ∨ (l'.pendingResult = l.pendingResult ∧ (l.phase = .responseOut → l'.phase = .responseOut))

theorem Link.Settles.refl (l : Link) : l.Settles l := ⟨⟨rfl, rfl⟩, .inr ⟨rfl, id⟩⟩

theorem Link.settles_voidByEvent (l : Link) : l.Settles l.voidByEvent := by
  unfold Link.voidByEvent
  split
  · exact ⟨⟨rfl, rfl⟩, .inl rfl⟩
  · exact .refl l

/-- An event that changes the links alone, and settles each of them. -/
structure SettlesLinks (s t : State) : Prop where
  same : t = s.withLinks t.links
  links : ∀ g, (s.links.read g).Settles (t.links.read g)

theorem SettlesLinks.refl (s : State) : SettlesLinks s s := ⟨rfl, fun _ => .refl _⟩

theorem SettlesLinks.modLink {s : State} {h : HostId} {f : Link → Link} (hf : (s.links.read h).Settles (f (s.links.read h))) :
    SettlesLinks s (s.modLink h f) where
  same := rfl
  links g := by
    rw [State.modLink_links, Table.read_update]
    split
    · next hg => rw [hg]; exact hf
    · exact .refl _

/-! ## The elementary effects -/

/-- One elementary effect of a command `c`, with what the command's checks say of the state it takes place in. The
proposition `framed` stands for the order of the framers, on which the length of a payload rests (R61). -/
inductive Effect (framed : Prop) : Instr → State → State → Prop where
  | links {c s t} : SettlesLinks s t → Effect framed c s t
  | posted {c s} (h n) : Effect framed c s (post h n s)
  | judged {c h s} : c = .join h ∨ c = .voteClear h → Effect framed c s (judgeVote s)
  | admitted {h s} (r : Request) : s.isJoined h = false → Effect framed (.join h) s (admitMember h r s)
  | departed {c h s} (final n) : c = .leave h ∨ c = .leaseExpiry h → final ≠ .joined → s.isJoined h = true →
      Effect framed c s (teardown h final n s)
  | setLease {h s} (b : Word16) : s.isJoined h = true → Effect framed (.setLeasePeriod h) s (s.modMember h fun x =>
      { x with leasePeriod := b.toNat, leaseDeadline := leaseDeadlineOf s.now b.toNat })
  | setMask {h s} (b : Word16) : Effect framed (.setAttentionMask h) s (s.modMember h fun x =>
      { x with mask := Mask.ofBits b })
  | setThreshold {h s} (b : Word16) : thresholdInRange b.toNat = true →
      Effect framed (.setCreditThreshold h) s (storeThreshold h b s)
  | setParams {c g s} (p : Params) : c = .setReserveThreshold g ∨ c = .setTurnWindow g ∨ c = .setVoteWindow g
      ∨ c = .setPrecedence g ∨ c = .setQuotaCeiling g → Effect framed c s { s with params := p }
  | reevaluated {h s} : Effect framed (.setReserveThreshold h) s (reevaluate s)
  | voted {h s} : s.isJoined h = true → Effect framed (.voteClear h) s { s with vote := some (s.ballot h) }
  | acknowledged {h s} (l : Latches) : Effect framed (.ack h) s (s.modDesk h fun d => { d with latches := l })
  | renewed {c s} (h) : Effect framed c s (renewLease h s)
  | responded {c s} (h) (p : PendingResult) : (∀ e o n last opened, p.commit ≠ .take e o n last opened) →
      Effect framed c s (respond h p s)
  | tookHead {c h n e s} : s.isJoined h = true → (s.queues.read h).head? = some e →
      Effect framed c s (answerTakeHead h n e s)
  | committedTake {h p s} : (s.links.read h).pendingResult = some p →
      Effect framed (.takeCommit h) s (commitTake h p.commit (closeTransaction h s))
  | committedNotice {h s} (p) : Effect framed (.fetchNoticeCommit h) s (commitFetchNotice h p s)
  | committedCounter {h s} (p) : Effect framed (.readCounterCommit h) s (commitReadCounter h p s)
  | voided {h s} : Effect framed (.transactionVoid h) s
      (voidRead (s.links.read h).pendingResult (closeTransaction h s))
  | faulted {c h s} (f b) : (∃ b, c = .headerBadCheck h b) ∨ c = .transactionVoid h →
      Effect framed c s (linkFault h f b s)
  | openedChannel {h r i mode s} : s.isJoined h = true → r.key ≠ 0 → s.findKey r.key = none →
      (s.channels.read i).state = .closed → Effect framed (.openChannel h) s (s.modChannel i fun _ => openedChannel h r mode)
  | closedChannel {h i s} : (s.channels.read i).state = .opened → Effect framed (.closeChannel h) s (closeChannel i s)
  | subscribed {h r c i p s} : s.isJoined h = true → (s.channels.read c).state = .opened →
      (s.subs.read i).state = .free →
      Effect framed (.subscribe h) s ((s.modSub i fun _ => newSubscription h r c p).modChannel c
        fun x => { x with subscriberCount := x.subscriberCount + 1 })
  | unsubscribed {h i s} (purge) : (s.subs.read i).state ≠ .free → (s.subs.read i).owner = h →
      Effect framed (.unsubscribe h) s (freeSubscription i (removeEntries h (s.purged h i purge) s))
  | rested {c i x s} : (s.subs.read i).state ≠ .free → x ≠ .free →
      Effect framed c s (s.modSub i fun y => { y with state := x })
  | arbitrated {h s} : s.isJoined h = true → s.fillingOf h = none → (arbitrate h s).2 = false →
      Effect framed (.begin h) s (arbitrate h s).1
  | began {h r i m s} : s.isJoined h = true → s.fillingOf h = none → (arbitrate h s).2 = true →
      (s.channels.read i).state = .opened → (s.messages.read m).state = .vacant →
      Effect framed (.begin h) s (startMessage h r i m (arbitrate h s).1)
  | put {h m s} {bytes : List Byte} {n : Nat} : s.isJoined h = true → s.fillingOf h = some m →
      s.exceedsLength (s.messages.read m) n = false → s.lacksCells h (newCells (s.messages.read m).length n) = false →
      1 ≤ n → n ≤ 64 → (framed → bytes.length = n) → Effect framed (.put h) s (appendBytes m bytes s)
  | sealed {h m s} : s.fillingOf h = some m → Effect framed (.sealMsg h) s
      (endTurnOf h (countSeal h (s.messages.read m).length (release m (sealMessage m s))))
  | aborted {h m s} : s.fillingOf h = some m → Effect framed (.abort h) s (abortMessage m s)
  | skipped {h e s} : (s.links.read h).pendingResult = none → (s.queues.read h).head? = some e →
      Effect framed (.skip h) s (removeEntry h e s)
  | turnEnded {s} : Effect framed .turnExpiry s (endTurn s)
  | voteEnded {s} : Effect framed .voteDeadline s { s with vote := none }
  | reset {s t} : execDeviceReset s = .next t → Effect framed .deviceReset s t
  | released {s} : Effect framed .resetRelease s { s with resetAsserted := false, now := 0 }
  | ticked {s} : s.expiryDue = false → Effect framed .millisecondTimeStep s { s with now := s.now + 1 }

/-- Effects of a command one after another. -/
abbrev Effects (framed : Prop) (c : Instr) : State → State → Prop := Relation.ReflTransGen (Effect framed c)

theorem Effects.keep {framed : Prop} {c : Instr} {P : State → Prop} (hP : ∀ u v, Effect framed c u v → P u → P v)
    {s t : State} (h : Effects framed c s t) (hs : P s) : P t := by
  induction h with
  | refl => exact hs
  | tail _ hv ih => exact hP _ _ hv ih

section
variable {F : Prop} {c : Instr} {s t u : State} {h : HostId}

theorem Effects.refl : Effects F c s s := Relation.ReflTransGen.refl

theorem Effects.links (hl : SettlesLinks s t) : Effects F c s t := .single (.links hl)

/-! ## Latches and notices -/

theorem effects_foldl_post (l : List HostId) (n : Notice) (s : State) :
    Effects F c s (l.foldl (fun s h => post h n s) s) := by
  induction l generalizing s with
  | nil => exact .refl
  | cons a l ih => exact .head (.posted a n) (ih _)

theorem effects_postAll (n : Notice) (s : State) : Effects F c s (postAll n s) := effects_foldl_post _ n s

theorem effects_postOthers (h : HostId) (n : Notice) (s : State) : Effects F c s (postOthers h n s) :=
  effects_foldl_post _ n s

/-! ## The shared forms of a command -/

theorem settlesLinks_deselectAfterEvent (ht : deselectAfterEvent h s = .next t) : SettlesLinks s t := by
  obtain ⟨rfl, hp⟩ := deselectAfterEvent_cases ht
  refine .modLink ⟨⟨rfl, rfl⟩, .inr ⟨rfl, fun hr => ?_⟩⟩
  obtain hp | ⟨hp, -⟩ := hp <;> cases hr.symm.trans hp

theorem settlesLinks_closeTransaction (h : HostId) (s : State) : SettlesLinks s (closeTransaction h s) := by
  have he : closeTransaction h s = s.modLink h fun l =>
      { l with sel := false, selectSeen := true, phase := .idle, payload := [], pendingResult := none } := by
    rw [closeTransaction_eq]
    rfl
  rw [he]
  exact .modLink ⟨⟨rfl, rfl⟩, .inl rfl⟩

theorem closeTransaction_pending (h : HostId) (s : State) :
    ((closeTransaction h s).links.read h).pendingResult = none := by
  rw [closeTransaction_eq, State.setLink, Table.read_write_self]

theorem settlesLinks_setLast (h : HostId) (r : Reply) (b : Byte) (s : State) : SettlesLinks s (setLast h r b s) :=
  .modLink ⟨⟨rfl, rfl⟩, .inr ⟨rfl, id⟩⟩

theorem settlesLinks_captureByte (h : HostId) (b : Byte) (s : State) : SettlesLinks s (captureByte h b s) :=
  .modLink ⟨⟨rfl, rfl⟩, .inr ⟨rfl, id⟩⟩

/-- A deselect that carries out a request, in the state its transaction leaves. -/
theorem effects_endRequest {which : Request → Bool} {owner : Link → State → State × Reply}
    (ht : endRequest h which owner s = .next t)
    (ho : ∀ r, s.carriesRequest h r → which r = true →
      Effects F c (closeTransaction h s) (owner (s.links.read h) (closeTransaction h s)).1) : Effects F c s t := by
  obtain ⟨r, hc, hw, rfl⟩ | ht := endRequest_cases ht
  · exact .head (.links (settlesLinks_closeTransaction h s)) ((ho r hc hw).tail (.links (settlesLinks_setLast _ _ _ _)))
  · exact .links (settlesLinks_deselectAfterEvent ht)

/-- The same, where the effects do not depend on what the link carries. -/
theorem effects_endRequest_of {which : Request → Bool} {owner : Link → State → State × Reply}
    (ht : endRequest h which owner s = .next t) (ho : ∀ l u, Effects F c u (owner l u).1) : Effects F c s t :=
  effects_endRequest ht fun _ _ _ => ho _ _

/-- A deselect that commits a read. -/
theorem effects_endRead {k : Kind} {owner : Commit → State → State} (ht : endRead h k owner s = .next t)
    (ho : ∀ p, (s.links.read h).pendingResult = some p → Effects F c s (owner p.commit (closeTransaction h s))) :
    Effects F c s t := by
  obtain ⟨p, ⟨-, -, -, -, hp⟩, rfl⟩ | ht := endRead_cases ht
  · exact (ho p hp).tail (.links (settlesLinks_setLast _ _ _ _))
  · exact .links (settlesLinks_deselectAfterEvent ht)

/-- The same, where the commit looks at no link. -/
theorem effects_endRead_of {k : Kind} {owner : Commit → State → State} (ht : endRead h k owner s = .next t)
    (ho : ∀ p u, Effects F c u (owner p u)) : Effects F c s t :=
  effects_endRead ht fun _ _ => .head (.links (settlesLinks_closeTransaction h s)) (ho _ _)

/-- A good header renews a lease and is answered (R134); its framer is in HEADER. -/
theorem effects_goodHeader {b : Byte} {which : Request → Bool} {answer : Request → State → State}
    (ht : headerEnd h b true which (fun r u => answer r (renewLease h u)) s = .next t)
    (ha : ∀ r u, (u.links.read h).phase = .header → Effects F c u (answer r u)) : Effects F c s t := by
  obtain ⟨hc, -, rfl⟩ | rfl := headerEnd_cases ht
  · refine .head (.links (settlesLinks_captureByte h b s)) (.head (.renewed h) (ha _ _ ?_))
    have hp := ((completesHeader_eq_true_iff _ _ _).1 hc).1
    simpa [captureByte] using hp
  · exact .refl

/-! ## The answers of the reads -/

theorem effects_answerGet (r : Request) (s : State) : Effects F c s (answerGet h r s) := by
  unfold answerGet
  split <;> exact .single (.responded h _ nofun)

theorem effects_answerFetchNotice (r : Request) (s : State) : Effects F c s (answerFetchNotice h r s) :=
  .single (.responded h _ nofun)

theorem effects_answerReadCounter (r : Request) (s : State) : Effects F c s (answerReadCounter h r s) := by
  unfold answerReadCounter
  split <;> exact .single (.responded h _ nofun)

theorem effects_answerFindChannel (r : Request) (s : State) : Effects F c s (answerFindChannel h r s) := by
  unfold answerFindChannel
  split <;> exact .single (.responded h _ nofun)

theorem effects_answerTake (r : Request) (s : State) : Effects F c s (answerTake h r s) := by
  unfold answerTake
  split
  · exact .single (.responded h _ nofun)
  next hj =>
  split
  · exact .single (.responded h _ nofun)
  split
  · exact .single (.responded h _ nofun)
  next e he => exact .single (.tookHead (by simpa using hj) he)

theorem effects_answerKind (r : Request) (s : State) (hp : (s.links.read h).phase = .header) :
    Effects F c s (answerKind h r s) := by
  unfold answerKind
  split
  · exact effects_answerGet r s
  · exact effects_answerFetchNotice r s
  · exact effects_answerReadCounter r s
  · exact effects_answerFindChannel r s
  · exact effects_answerTake r s
  · refine .links (.modLink ⟨⟨rfl, rfl⟩, .inr ⟨rfl, fun hr => ?_⟩⟩)
    cases hr.symm.trans hp

/-! ## The owners of the requests -/

section
variable (h : HostId) (l : Link) (s : State)

theorem effects_ownerJoin : Effects F (.join h) s (ownerJoin h l s).1 := by
  unfold ownerJoin
  dsimp only
  split
  · exact .refl
  next hj =>
  split
  · exact .refl
  · rw [accept_fst]
    refine .head (.admitted l.request (by simpa using hj)) ((effects_postOthers h (.hostJoined h) _).trans ?_)
    unfold tellVote
    split
    · exact .head (.posted h _) (.single (.judged (.inl rfl)))
    · exact .refl

theorem effects_ownerLeave : Effects F (.leave h) s (ownerLeave h l s).1 := by
  unfold ownerLeave
  split
  · next hj =>
    rw [accept_fst]
    exact .single (.departed .detached (.hostLeft h) (.inl rfl) (by decide) hj)
  · exact .refl

theorem effects_ownerSetOwn {c : Instr} {inRange : Nat → Bool} {store : Word16 → State → State}
    (hs : ∀ b, s.isJoined h = true → inRange b.toNat = true → Effects F c s (store b s)) :
    Effects F c s (ownerSetOwn h inRange store l s).1 := by
  unfold ownerSetOwn
  dsimp only
  split
  · exact .refl
  next hj =>
  split
  · exact .refl
  next hr => exact hs _ (by simpa using hj) (by simpa using hr)

theorem effects_ownerSetShared {c : Instr} {inRange : Nat → Bool} {store : Word16 → State → State}
    (hs : ∀ b, Effects F c s (store b s)) : Effects F c s (ownerSetShared h inRange store l s).1 := by
  unfold ownerSetShared
  dsimp only
  split
  · exact .refl
  split
  · exact .refl
  split
  · exact .refl
  · exact hs _

theorem effects_castVote (hj : s.isJoined h = true) : Effects F (.voteClear h) s (castVote h s) := by
  cases hv : s.vote with
  | some v =>
    rw [castVote_of_open h hv]
    exact .single (.voted hj)
  | none =>
    rw [castVote_of_none h hv]
    exact .head (.voted hj) (effects_postOthers _ _ _)

theorem effects_ownerVoteClear : Effects F (.voteClear h) s (ownerVoteClear h l s).1 := by
  unfold ownerVoteClear
  split
  · next hj => exact (effects_castVote h s hj).tail (.judged (.inr rfl))
  · exact .refl

theorem effects_ownerAck : Effects F (.ack h) s (ownerAck h l s).1 := by
  unfold ownerAck
  dsimp only
  split
  · exact .refl
  · exact .single (.acknowledged _)

theorem effects_ownerOpenChannel : Effects F (.openChannel h) s (ownerOpenChannel h l s).1 := by
  unfold ownerOpenChannel
  dsimp only
  split
  · exact .refl
  next hj =>
  split
  · exact .refl
  next hk =>
  split
  · split
    · exact .refl
    next hf =>
    split
    · exact .refl
    next i hi => exact .single (.openedChannel (by simpa using hj) hk hf (by simpa using Table.lowest_some hi))
  · exact .refl

/-- A slot that holds a key and is not DRAINING is OPEN. -/
theorem opened_of_findKey {k : Word16} {i : ChanId} (hf : s.findKey k = some i)
    (hd : (s.channels.read i).state ≠ .draining) : (s.channels.read i).state = .opened := by
  have hn := state_of_findKey hf
  cases hs : (s.channels.read i).state <;> simp_all

theorem effects_ownerCloseChannel : Effects F (.closeChannel h) s (ownerCloseChannel h l s).1 := by
  unfold ownerCloseChannel
  dsimp only
  split
  · exact .refl
  split
  · exact .refl
  split
  · exact .refl
  next i hi =>
  split
  · exact .refl
  next hd =>
  split
  · exact .refl
  · exact .single (.closedChannel (opened_of_findKey s hi hd))

theorem effects_ownerSubscribe : Effects F (.subscribe h) s (ownerSubscribe h l s).1 := by
  unfold ownerSubscribe
  dsimp only
  split
  · exact .refl
  next hj =>
  split
  · exact .refl
  split
  · exact .refl
  next i hi =>
  split
  · exact .refl
  next hd =>
  split
  · split
    · exact .refl
    next j hj' =>
      exact .single (.subscribed (by simpa using hj) (opened_of_findKey s hi hd) (by simpa using Table.lowest_some hj'))
  · exact .refl

theorem effects_ownerUnsubscribe : Effects F (.unsubscribe h) s (ownerUnsubscribe h l s).1 := by
  obtain ⟨c, -, ho⟩ | ⟨-, i, hi, ho⟩ := ownerUnsubscribe_cases h l s <;> rw [ho]
  · exact .refl
  · obtain ⟨-, hf, hown⟩ := (ownedSub_eq_some_iff s h _ i).1 hi
    exact .single (.unsubscribed _ hf hown)

theorem effects_ownerRest {c : Instr} {x : SubState} (hx : x ≠ .free) : Effects F c s (ownerRest h x l s).1 := by
  obtain ⟨c, -, ho⟩ | ⟨-, i, hi, ho⟩ := ownerRest_cases h x l s <;> rw [ho]
  · exact .refl
  · exact .single (.rested ((ownedSub_eq_some_iff s h _ i).1 hi).2.1 hx)

theorem effects_ownerBegin : Effects F (.begin h) s (ownerBegin h l s).1 := by
  unfold ownerBegin
  dsimp only
  split
  · exact .refl
  next hj =>
  split
  · exact .refl
  split
  · exact .refl
  split
  · exact .refl
  next i hi =>
  split
  · exact .refl
  next hd =>
  split
  · exact .refl
  split
  · exact .refl
  next hf =>
  split
  · exact .refl
  split
  · exact .refl
  next m hm =>
  have hjoined : s.isJoined h = true := by simpa using hj
  have hnone : s.fillingOf h = none := by simpa using hf
  split
  · next t ht =>
    have he := Effect.began (framed := F) (r := l.request) hjoined hnone (by rw [ht]) (opened_of_findKey s hi hd)
      (by simpa using Table.lowest_some hm)
    rw [ht] at he
    exact .single he
  · next t ht =>
    have he := Effect.arbitrated (framed := F) hjoined hnone (by rw [ht])
    rw [ht] at he
    exact .single he

theorem effects_ownerPut (hp : F → countInRange l.request.a = true → l.payload.length = l.request.a.toNat) :
    Effects F (.put h) s (ownerPut h l s).1 := by
  unfold ownerPut
  dsimp only
  split
  · exact .refl
  next hj =>
  split
  · exact .refl
  next hc =>
  have hcount : countInRange l.request.a = true := by simpa using hc
  split
  · exact .refl
  next m hm =>
  split
  · exact .refl
  next he =>
  split
  · exact .refl
  next hl =>
    exact .single (.put (by simpa using hj) hm (by simpa using he) (by simpa using hl)
      ((countInRange_eq_true_iff _).1 hcount).1 ((countInRange_eq_true_iff _).1 hcount).2 fun hF => hp hF hcount)

theorem effects_ownerSeal : Effects F (.sealMsg h) s (ownerSeal h l s).1 := by
  unfold ownerSeal
  dsimp only
  split
  · exact .refl
  split
  · exact .refl
  next m hm =>
  split
  · exact .refl
  · exact .single (.sealed hm)

theorem effects_ownerAbort : Effects F (.abort h) s (ownerAbort h l s).1 := by
  unfold ownerAbort
  split
  · exact .refl
  split
  · exact .refl
  next m hm => exact .single (.aborted hm)

theorem effects_ownerSkip (hp : (s.links.read h).pendingResult = none) :
    Effects F (.skip h) s (ownerSkip h l s).1 := by
  unfold ownerSkip
  split
  · exact .refl
  split
  · exact .refl
  next e he => exact .single (.skipped hp he)

end

/-! ## Events of the links, of RESET and of the time -/

theorem settlesLinks_selAsserted (ht : execSelAsserted h s = .next t) : SettlesLinks s t := by
  unfold execSelAsserted at ht
  dsimp only at ht
  split at ht
  · cases ht
  · split at ht <;> cases ht
    · exact .modLink ⟨⟨rfl, rfl⟩, .inl rfl⟩
    · exact .modLink ⟨⟨rfl, rfl⟩, .inr ⟨rfl, id⟩⟩

theorem settlesLinks_headerByteArrival {b : Byte} (ht : execHeaderByteArrival h b s = .next t) : SettlesLinks s t := by
  unfold execHeaderByteArrival at ht
  dsimp only at ht
  split at ht
  · cases ht
    exact settlesLinks_captureByte h b s
  · split at ht <;> cases ht
    exact .refl s

theorem settlesLinks_payloadByteArrival {b : Byte} (ht : execPayloadByteArrival h b s = .next t) : SettlesLinks s t := by
  unfold execPayloadByteArrival at ht
  dsimp only at ht
  split at ht
  · split at ht <;> cases ht
    · exact .refl s
    · exact .modLink ⟨⟨rfl, rfl⟩, .inr ⟨rfl, id⟩⟩
  · split at ht <;> cases ht
    exact .refl s

theorem settlesLinks_responseByteArrival (ht : execResponseByteArrival h s = .next t) : SettlesLinks s t := by
  unfold execResponseByteArrival at ht
  dsimp only at ht
  split at ht
  · split at ht <;> cases ht
    · exact .refl s
    · exact .modLink ⟨⟨rfl, rfl⟩, .inr ⟨rfl, id⟩⟩
  · split at ht <;> cases ht
    exact .refl s

theorem settlesLinks_selectSeen (ht : execSelectSeen h s = .next t) : SettlesLinks s t := by
  unfold execSelectSeen at ht
  dsimp only at ht
  split at ht
  · next hp =>
    cases ht
    refine .modLink ⟨⟨rfl, rfl⟩, .inr ⟨rfl, fun hr => ?_⟩⟩
    cases hr.symm.trans hp.1
  · cases ht

theorem effects_headerBadCheck {b : Byte} (ht : execHeaderBadCheck h b s = .next t) :
    Effects F (.headerBadCheck h b) s t := by
  obtain ⟨hc, -, rfl⟩ | rfl := headerEnd_cases ht
  · refine .head (.links (settlesLinks_captureByte h b s))
      (.head (.links (.modLink ⟨⟨rfl, rfl⟩, .inr ⟨rfl, fun hr => ?_⟩⟩))
      (.single (.faulted _ _ (.inl ⟨b, rfl⟩))))
    have hp := ((completesHeader_eq_true_iff _ _ _).1 hc).1
    simp [captureByte, hp] at hr
  · exact .refl

theorem effects_transactionVoid (ht : execTransactionVoid h s = .next t) : Effects F (.transactionVoid h) s t := by
  unfold execTransactionVoid at ht
  dsimp only at ht
  split at ht
  · cases ht
    exact .head .voided (.head (.links (settlesLinks_setLast _ _ _ _)) (.single (.faulted _ _ (.inr rfl))))
  · exact .links (settlesLinks_deselectAfterEvent ht)

theorem effects_leaseExpiry (ht : execLeaseExpiry h s = .next t) : Effects F (.leaseExpiry h) s t := by
  obtain ⟨hd, ho⟩ | ⟨-, ho⟩ := execLeaseExpiry_cases h s
  · rw [next_eq_of_eq ho ht]
    exact .single (.departed .lapsed (.hostLapsed h) (.inr rfl) (by decide) ((State.leaseDue_eq_true_iff s h).1 hd).1)
  · rw [next_eq_of_eq ho ht]

theorem effects_turnExpiry (ht : execTurnExpiry s = .next t) : Effects F .turnExpiry s t := by
  obtain ⟨-, ho⟩ | ⟨-, g, d, -, ho⟩ | ⟨-, g, d, -, ho⟩ := execTurnExpiry_cases s <;> obtain rfl := next_eq_of_eq ho ht
  · exact .refl
  · exact .head (.posted g _) (.single .turnEnded)
  · exact .single .turnEnded

theorem effects_voteDeadline (ht : execVoteDeadline s = .next t) : Effects F .voteDeadline s t := by
  obtain ⟨-, ho⟩ | ⟨-, ho⟩ := execVoteDeadline_cases s <;> obtain rfl := next_eq_of_eq ho ht
  · exact .head .voteEnded (effects_postAll _ _)
  · exact .refl

theorem effects_resetRelease (ht : execResetRelease s = .next t) : Effects F .resetRelease s t := by
  unfold execResetRelease at ht
  split at ht
  · cases ht
    refine .head .released (Effects.links ⟨rfl, fun g => ?_⟩)
    rw [Table.read_mapAll]
    exact ⟨⟨rfl, rfl⟩, .inr ⟨rfl, id⟩⟩
  · cases ht

theorem effects_timeStep (ht : execMillisecondTimeStep s = .next t) : Effects F .millisecondTimeStep s t := by
  obtain ⟨-, ho⟩ | ⟨-, -, ho⟩ | ⟨-, hdue, ho⟩ := execMillisecondTimeStep_cases s
  · obtain rfl := next_eq_of_eq ho ht
    exact .refl
  · cases ho.symm.trans ht
  · obtain rfl := next_eq_of_eq ho ht
    exact .single (.ticked hdue)

/-- The payload of a complete PUT is as long as its count says, where the framers are in order (R61, R134). -/
theorem payload_length_of_carries {r : Request} (hc : s.carriesRequest h r) (hk : r.kind = some .put) (hl : linkLaw s)
    (hr : countInRange r.a = true) : (s.links.read h).payload.length = r.a.toNat := by
  obtain ⟨hp, hrem, -, rfl⟩ := hc
  have hlen := ((hl h).2.2.1 hp).2
  simp only [Request.payloadLength, hk, hr, and_self, if_true] at hlen
  omega

/-! ## The commands -/

/-- Every command is a run of its elementary effects. -/
theorem exec_effects (ht : exec c s = .next t) : Effects (linkLaw s) c s t := by
  cases c with
  | deviceReset => exact .single (.reset ht)
  | selAsserted h => exact .links (settlesLinks_selAsserted ht)
  | headerGoodCheck h b =>
    rw [exec, execHeaderGoodCheck] at ht
    exact effects_goodHeader ht effects_answerKind
  | headerBadCheck h b => exact effects_headerBadCheck ht
  | deselectInDiscard h => exact .links (settlesLinks_deselectAfterEvent ht)
  | transactionVoid h => exact effects_transactionVoid ht
  | unknownRequest h =>
    rw [exec, execUnknownRequest] at ht
    exact effects_endRequest_of ht (fun _ _ => .refl)
  | join h =>
    rw [exec, execJoin] at ht
    exact effects_endRequest_of ht (effects_ownerJoin h)
  | leave h =>
    rw [exec, execLeave] at ht
    exact effects_endRequest_of ht (effects_ownerLeave h)
  | setLeasePeriod h =>
    rw [exec, execSetLeasePeriod] at ht
    exact effects_endRequest_of ht (fun l u => effects_ownerSetOwn h l u fun b hj _ => .single (.setLease b hj))
  | setAttentionMask h =>
    rw [exec, execSetAttentionMask] at ht
    exact effects_endRequest_of ht (fun l u => effects_ownerSetOwn h l u fun b _ _ => .single (.setMask b))
  | setCreditThreshold h =>
    rw [exec, execSetCreditThreshold] at ht
    exact effects_endRequest_of ht (fun l u => effects_ownerSetOwn h l u fun b _ hr => .single (.setThreshold b hr))
  | setReserveThreshold h =>
    rw [exec, execSetReserveThreshold] at ht
    exact effects_endRequest_of ht (fun l u => effects_ownerSetShared h l u fun _ =>
      .head (.setParams (g := h) _ (by simp only [true_or])) (.single .reevaluated))
  | setTurnWindow h =>
    rw [exec, execSetTurnWindow] at ht
    exact effects_endRequest_of ht (fun l u => effects_ownerSetShared h l u fun _ =>
      .single (.setParams (g := h) _ (by simp only [true_or, or_true])))
  | setVoteWindow h =>
    rw [exec, execSetVoteWindow] at ht
    exact effects_endRequest_of ht (fun l u => effects_ownerSetShared h l u fun _ =>
      .single (.setParams (g := h) _ (by simp only [true_or, or_true])))
  | setPrecedence h =>
    rw [exec, execSetPrecedence] at ht
    exact effects_endRequest_of ht (fun l u => effects_ownerSetShared h l u fun _ =>
      .single (.setParams (g := h) _ (by simp only [true_or, or_true])))
  | setQuotaCeiling h =>
    rw [exec, execSetQuotaCeiling] at ht
    exact effects_endRequest_of ht (fun l u => effects_ownerSetShared h l u fun _ =>
      .single (.setParams (g := h) _ (by simp only [or_true])))
  | get h b => exact effects_goodHeader ht fun r u _ => effects_answerGet r u
  | voteClear h =>
    rw [exec, execVoteClear] at ht
    exact effects_endRequest_of ht (effects_ownerVoteClear h)
  | ack h =>
    rw [exec, execAck] at ht
    exact effects_endRequest_of ht (effects_ownerAck h)
  | fetchNotice h b => exact effects_goodHeader ht fun r u _ => effects_answerFetchNotice r u
  | fetchNoticeCommit h =>
    rw [exec, execFetchNoticeCommit] at ht
    exact effects_endRead_of ht (fun p _ => .single (.committedNotice p))
  | readCounter h b => exact effects_goodHeader ht fun r u _ => effects_answerReadCounter r u
  | readCounterCommit h =>
    rw [exec, execReadCounterCommit] at ht
    exact effects_endRead_of ht (fun p _ => .single (.committedCounter p))
  | openChannel h =>
    rw [exec, execOpenChannel] at ht
    exact effects_endRequest_of ht (effects_ownerOpenChannel h)
  | closeChannel h =>
    rw [exec, execCloseChannel] at ht
    exact effects_endRequest_of ht (effects_ownerCloseChannel h)
  | findChannel h b => exact effects_goodHeader ht fun r u _ => effects_answerFindChannel r u
  | subscribe h =>
    rw [exec, execSubscribe] at ht
    exact effects_endRequest_of ht (effects_ownerSubscribe h)
  | unsubscribe h =>
    rw [exec, execUnsubscribe] at ht
    exact effects_endRequest_of ht (effects_ownerUnsubscribe h)
  | suspend h =>
    rw [exec, execSuspend] at ht
    exact effects_endRequest_of ht (fun l u => effects_ownerRest h l u (by decide))
  | resume h =>
    rw [exec, execResume] at ht
    exact effects_endRequest_of ht (fun l u => effects_ownerRest h l u (by decide))
  | begin h =>
    rw [exec, execBegin] at ht
    exact effects_endRequest_of ht (effects_ownerBegin h)
  | put h =>
    rw [exec, execPut] at ht
    refine effects_endRequest ht fun r hc hw => effects_ownerPut h _ _ fun hl hr => ?_
    obtain ⟨-, -, -, rfl⟩ := id hc
    exact payload_length_of_carries hc (by simpa [isKind] using hw) hl hr
  | sealMsg h =>
    rw [exec, execSeal] at ht
    exact effects_endRequest_of ht (effects_ownerSeal h)
  | abort h =>
    rw [exec, execAbort] at ht
    exact effects_endRequest_of ht (effects_ownerAbort h)
  | take h b => exact effects_goodHeader ht fun r u _ => effects_answerTake r u
  | takeCommit h =>
    rw [exec, execTakeCommit] at ht
    exact effects_endRead ht fun p hp => .single (.committedTake hp)
  | skip h =>
    rw [exec, execSkip] at ht
    exact effects_endRequest ht fun _ _ _ => effects_ownerSkip h _ _ (closeTransaction_pending h s)
  | leaseExpiry h => exact effects_leaseExpiry ht
  | turnExpiry => exact effects_turnExpiry ht
  | voteDeadline => exact effects_voteDeadline ht
  | headerByteArrival h b => exact .links (settlesLinks_headerByteArrival ht)
  | payloadByteArrival h b => exact .links (settlesLinks_payloadByteArrival ht)
  | responseByteArrival h => exact .links (settlesLinks_responseByteArrival ht)
  | selectSeen h => exact .links (settlesLinks_selectSeen ht)
  | resetRelease => exact effects_resetRelease ht
  | millisecondTimeStep => exact effects_timeStep ht
  | getCommit h =>
    rw [exec, execGetCommit] at ht
    exact effects_endRead_of ht (fun _ _ => .refl)
  | findChannelCommit h =>
    rw [exec, execFindChannelCommit] at ht
    exact effects_endRead_of ht (fun _ _ => .refl)
  | setReadOnlyValue h =>
    rw [exec, execSetReadOnlyValue] at ht
    exact effects_endRequest_of ht (fun _ _ => .refl)

/-- What every effect keeps, and no queue of commands moves, every step keeps. -/
theorem step_keeps {P : State → Prop} (hpending : ∀ u p, P u → P { u with pending := p })
    (heffect : ∀ c u v, Effect (linkLaw s) c u v → P u → P v) (hs : P s) (ht : step s = .next t) : P t := by
  unfold step at ht
  split at ht
  · cases ht
    exact hs
  · next c rest _ => exact (exec_effects ht).keep (heffect c) (hpending s rest hs)

end

end Sys2Proof.Machine
end

section
/-! SUPPORT. The pool's bytes through a step, and DEVICE_RESET's state table by table. -/

namespace Sys2Proof.Machine

/-! ## The pool's bytes (R1) -/

theorem closeChannel_pool (i : ChanId) (s : State) : (closeChannel i s).pool = s.pool := by
  have haborts : (closeAborts i s).pool = s.pool := foldl_keeps State.pool _ _ _ (by simp [closeAbort])
  have hsubs : (closeSubscriptions i (closeAborts i s)).pool = (closeAborts i s).pool :=
    foldl_keeps State.pool _ _ _ (by simp [closeSubscription])
  exact hsubs.trans haborts

theorem startMessage_pool (h : HostId) (r : Request) (i : ChanId) (m : MsgId) (s : State) :
    (startMessage h r i m s).pool = s.pool := by
  unfold startMessage
  dsimp only
  split <;> simp

theorem sealMessage_pool (m : MsgId) (s : State) : (sealMessage m s).pool = s.pool := by
  unfold sealMessage
  dsimp only
  split <;> simp

theorem commitTake_pool (h : HostId) (p : Commit) (s : State) : (commitTake h p s).pool = s.pool := by
  unfold commitTake
  split
  · dsimp only
    split <;> simp
  · simp
  · rfl

theorem answerTakeHead_pool (h : HostId) (n : Nat) (e : EntryId) (s : State) :
    (answerTakeHead h n e s).pool = s.pool := by
  unfold answerTakeHead
  dsimp only
  split <;> simp

theorem storeThreshold_pool (h : HostId) (b : Word16) (s : State) : (storeThreshold h b s).pool = s.pool := by
  unfold storeThreshold
  dsimp only
  split <;> simp

/-- PUT alone writes the pool, and writes keep the form. -/
theorem wf_pool_effect {F : Prop} {c : Instr} {s t : State} (he : Effect F c s t) (hs : Memory.wf s.pool = true) :
    Memory.wf t.pool = true := by
  have of_eq : t.pool = s.pool → Memory.wf t.pool = true := fun h => h ▸ hs
  cases he with
  | put => exact appendBytes_wf _ _ _ hs
  | links hl => rw [hl.same]; exact hs
  | closedChannel => exact of_eq (closeChannel_pool _ _)
  | began => exact of_eq ((startMessage_pool _ _ _ _ _).trans (by simp))
  | sealed => exact of_eq (by simp [sealMessage_pool])
  | committedTake => exact of_eq ((commitTake_pool _ _ _).trans (by simp))
  | tookHead => exact of_eq (answerTakeHead_pool _ _ _ _)
  | setThreshold => exact of_eq (storeThreshold_pool _ _ _)
  | committedNotice p => cases p <;> exact hs
  | committedCounter p => cases p <;> exact hs
  | reset ht => cases ht; exact hs
  | voided => exact of_eq (by simp [voidRead_eq])
  | _ => exact of_eq (by simp [admitMember])

/-- Settles O52: of the effects of a command one alone writes the pool. -/
theorem stepKeepsPoolForm : Obligations.StepKeepsPoolForm := fun _ _ hs ht =>
  step_keeps (fun _ _ h => h) (fun _ _ _ => wf_pool_effect) hs ht

/-! ## DEVICE_RESET (R165) -/

/-- The state that DEVICE_RESET leaves. -/
def State.underReset (s : State) : State :=
  { State.reset with
    pending := s.pending, now := s.now, resetAsserted := true, pool := s.pool
    links := s.links.mapAll Link.underReset }

theorem execDeviceReset_eq (s : State) : execDeviceReset s = .next s.underReset := rfl

theorem underReset_freeList (s : State) : s.underReset.freeList = State.reset.freeList := by
  simp only [State.underReset]

theorem underReset_link (s : State) (h : HostId) :
    s.underReset.links.read h = { Link.reset with sel := (s.links.read h).sel, selectSeen := false } :=
  Table.read_mapAll _ _ _

/-- The status block of a state with the tables of reset and links under reset: READY latched, 512 free cells. -/
theorem statusBlock_of_reset {t : State} {h : HostId} (hm : t.members.read h = Member.reset) (hr : t.rationed = false)
    (ht : t.turn = .none) (hv : t.vote = none) (hd : t.desks.read h = Desk.ready) (hq : t.queues.read h = [])
    (ha : t.credit h = 0) (hf : t.freeCount = 512) (hl : (t.links.read h).lastResult = .noRequest)
    (hser : (t.links.read h).lastSerial = 0) (hval : (t.links.read h).lastValue = 0) :
    t.statusBlock h = [0x00, 0x20, 0, 0, 0, 0, 0x02, 0x00, 0, 0, 0, 0] := by
  rw [State.statusBlock, hm, hr, ht, hv, hd, hq, ha, hf, hl, hser, hval]
  rfl

/-- Settles O5: the tables are those of reset, and the status block is read off them. -/
theorem deviceResetRestoresStart : Obligations.DeviceResetRestoresStart := by
  intro s
  refine ⟨_, execDeviceReset_eq s, rfl, rfl, rfl, rfl, rfl, underReset_freeList s, rfl, rfl, rfl, rfl, rfl, rfl, rfl,
    rfl, rfl, rfl, rfl, rfl, rfl, rfl, fun h => ⟨?_, reset_atn h, ?_⟩⟩
  · have hl := underReset_link s h
    refine statusBlock_of_reset (Table.read_replicate _ h) rfl rfl rfl (Table.read_replicate _ h)
      (Table.read_replicate _ h) ?_ ?_ ?_ ?_ ?_
    · rw [State.credit]
      exact congrArg Account.credit (Table.read_replicate _ h)
    · rw [State.freeCount, underReset_freeList, reset_freeList, List.length_finRange]
    · exact congrArg Link.lastResult hl
    · exact congrArg Link.lastSerial hl
    · exact congrArg Link.lastValue hl
  · rw [underReset_link]
    exact ⟨rfl, rfl, rfl, rfl, rfl, rfl, rfl, rfl, rfl⟩

/-! ## Cells and charge -/

/-- Settles O46: the operation against the relation of its rule. -/
theorem freeingAMessage : Obligations.FreeingAMessage := fun s m => freed_freeMessage m s

/-- Settles O47: the lines of R11's table, each by the branch of the judgement it names. -/
theorem exhaustedMarkJudgement : Obligations.ExhaustedMarkJudgement := by
  intro s h a d c
  refine ⟨fun ha hc => ?_, fun ha hc => ?_, fun ha hc => ?_, fun ha h0 hc => ?_, fun ha h0 hc => ?_⟩ <;>
    rw [judgeMark_eq]
  · rw [if_neg (by simp [a, ha]), if_pos hc]
  · rw [if_neg (by simp [a, ha]), if_neg (Nat.ne_of_gt hc)]
  · rw [if_pos ha, if_neg fun hn => hn.1 hc]
  · rw [if_pos ha, if_neg fun hn => Nat.not_le_of_lt hc hn.2]
  · rw [if_pos ha, if_pos ⟨Nat.ne_of_gt h0, hc⟩]

end Sys2Proof.Machine
end

section
/-! SUPPORT. The append of a PUT (R6, R69): the cell it may take, what it makes of the message, of the cells and of the
account, and what it leaves alone. -/

namespace Sys2Proof.Machine

/-! ## Cells and lengths -/

theorem cellsFor_eq (n : Nat) : cellsFor n = (n + 63) / 64 := rfl

theorem newCells_le_one {length n : Nat} (hn : n ≤ 64) : newCells length n ≤ 1 := by
  simp only [newCells, cellsFor_eq]
  omega

theorem cellsFor_add (length n : Nat) : cellsFor (length + n) = cellsFor length + newCells length n := by
  simp only [newCells, cellsFor_eq]
  omega

/-- The bytes of a tail cell, from its length (R1). -/
theorem tailUsed_eq {n : Nat} (hn : 1 ≤ n) : tailUsed n = (n - 1) % 64 + 1 := by
  simp only [tailUsed, cellsFor_eq, Config.cellBytes]
  omega

/-! ## The cell an append takes (R3) -/

/-- A message's publisher is charged one cell more, the head of the free list (step 1 of R69). -/
def State.charged (s : State) (m : MsgId) : State :=
  reevaluate (setCharge (s.messages.read m).publisher ((s.accounts.read (s.messages.read m).publisher).charge + 1)
    { s with freeList := s.freeList.tail })

theorem charged_frame (s : State) (m : MsgId) :
    (s.charged m).cells = s.cells ∧ (s.charged m).messages = s.messages ∧ (s.charged m).freeList = s.freeList.tail
      ∧ (s.charged m).pool = s.pool := by
  simp [State.charged]

/-- The cells after `c` is linked behind a tail (R3). -/
def linkBehind (cells : Table CellRec 512) (c : CellId) : Option CellId → Table CellRec 512
  | some old => cells.write old { next := some c, used := 64 }
  | none => cells

/-- A message whose chain has been continued by a cell. -/
def Message.grown (x : Message) (c : CellId) : Message :=
  { x with head := some (x.head.getD c), tail := some c, cellCount := x.cellCount + 1 }

theorem attachRun_singleton (m : MsgId) (c : CellId) (s : State) :
    attachRun m [c] s =
      { s with
        cells := linkBehind s.cells c (s.messages.read m).tail
        messages := s.messages.write m ((s.messages.read m).grown c) } := by
  unfold attachRun linkBehind
  cases (s.messages.read m).tail <;> rfl

theorem chargeCells_zero (m : MsgId) (s : State) : chargeCells m 0 s = s := if_pos rfl

theorem chargeCells_one {m : MsgId} {s : State} {c : CellId} {rest : List CellId} (hf : s.freeList = c :: rest) :
    chargeCells m 1 s =
      { s.charged m with
        cells := linkBehind s.cells c (s.messages.read m).tail
        messages := s.messages.write m ((s.messages.read m).grown c) } := by
  have htake : takeCells 1 s = some ([c], { s with freeList := rest }) := by
    simp [takeCells, State.freeCount, hf, linkRun]
  have hcharge : chargeCells m 1 s = attachRun m [c] (s.charged m) := by
    simp only [chargeCells, htake, State.charged, hf, List.tail_cons]
    rfl
  rw [hcharge, attachRun_singleton, (charged_frame s m).1, (charged_frame s m).2.1]

/-- A message of which an append has touched nothing but the chain. -/
def SameButChain (m : MsgId) (s t : State) : Prop :=
  ∃ hd tl n, t.messages = s.messages.write m { s.messages.read m with head := hd, tail := tl, cellCount := n }

theorem sameButChain_of_eq {m : MsgId} {s t : State} (h : t.messages = s.messages) : SameButChain m s t :=
  ⟨(s.messages.read m).head, (s.messages.read m).tail, (s.messages.read m).cellCount,
    h.trans (Table.write_read _ _).symm⟩

theorem sameButChain_attachRun (m : MsgId) (run : List CellId) (s : State) : SameButChain m s (attachRun m run s) := by
  cases run with
  | nil => exact sameButChain_of_eq rfl
  | cons c rest =>
    refine ⟨some ((s.messages.read m).head.getD c), (c :: rest).getLast?,
      (s.messages.read m).cellCount + (c :: rest).length, ?_⟩
    unfold attachRun
    dsimp only
    split <;> rfl

/-- Whatever the free list holds, an append's cells concern the chain alone. -/
theorem sameButChain_chargeCells (m : MsgId) (k : Nat) (s : State) : SameButChain m s (chargeCells m k s) := by
  unfold chargeCells
  split
  · exact sameButChain_of_eq rfl
  split
  · exact sameButChain_of_eq rfl
  next run t ht =>
  have hmessages : t.messages = s.messages := by
    unfold takeCells at ht
    split at ht <;> cases ht
    simp
  obtain ⟨hd, tl, n, hm⟩ := sameButChain_attachRun m run
    (reevaluate (setCharge (t.messages.read m).publisher ((t.accounts.read (t.messages.read m).publisher).charge + k) t))
  exact ⟨hd, tl, n, by simpa [hmessages] using hm⟩

/-- The cells after the tail has been filled up to a length (R1). -/
def fillTail (cells : Table CellRec 512) (length : Nat) : Option CellId → Table CellRec 512
  | some c => cells.update c fun r => { r with used := tailUsed length }
  | none => cells

/-- What an append makes of a state, after the cell it takes. -/
theorem appendBytes_eq (m : MsgId) (bytes : List Byte) (s : State) :
    let n := (s.messages.read m).length
    let t := chargeCells m (newCells n bytes.length) s
    appendBytes m bytes s =
      { t with
        pool := storeBytes (t.chainOf m) n bytes t.pool
        cells := fillTail t.cells (n + bytes.length) (t.messages.read m).tail
        messages := t.messages.update m fun x => { x with length := n + bytes.length } } := by
  unfold appendBytes fillTail
  dsimp only
  generalize chargeCells m (newCells (s.messages.read m).length bytes.length) s = t
  cases (t.messages.read m).tail <;> rfl

theorem appendBytes_messages (m : MsgId) (bytes : List Byte) (s : State) : ∃ hd tl n,
    (appendBytes m bytes s).messages = s.messages.write m
      { s.messages.read m with
        head := hd, tail := tl, cellCount := n, length := (s.messages.read m).length + bytes.length } := by
  obtain ⟨hd, tl, n, hm⟩ := sameButChain_chargeCells m (newCells (s.messages.read m).length bytes.length) s
  refine ⟨hd, tl, n, ?_⟩
  rw [appendBytes_eq]
  dsimp only
  rw [hm, Table.update, Table.write_write, Table.read_write_self]

end Sys2Proof.Machine
end

section
/-! SUPPORT. FILLING messages and absent hosts through the shared operations: who fills a message, and that nothing of a
host that is not JOINED comes about (R60, R148). -/

namespace Sys2Proof.Machine

/-! ## FILLING messages (R60) -/

/-- A record that is FILLING was so before, for the same publisher and in the same mode; and where the mode is not
STREAMING no reference has come to it. -/
def Message.FillsAs (x y : Message) : Prop :=
  y.state = .filling → x.state = .filling ∧ y.publisher = x.publisher ∧ y.mode = x.mode
    ∧ (y.mode ≠ .streaming → y.refCount ≤ x.refCount)

/-- Every FILLING message was FILLING before. -/
def KeepsFilling (s t : State) : Prop := ∀ m, (s.messages.read m).FillsAs (t.messages.read m)

theorem Message.FadesTo.fillsAs {x y : Message} (h : x.FadesTo y) : x.FillsAs y := fun hy =>
  ⟨(h hy).1, (h hy).2.1, (h hy).2.2.1, fun _ => (h hy).2.2.2⟩

theorem Message.FillsAs.refl (x : Message) : x.FillsAs x := (Message.FadesTo.refl x).fillsAs

theorem Message.fillsAs_of_not_filling {x y : Message} (h : y.state ≠ .filling) : x.FillsAs y := fun hy => absurd hy h

namespace KeepsFilling

variable {s t u : State}

theorem trans (hst : KeepsFilling s t) (htu : KeepsFilling t u) : KeepsFilling s u := fun m hm => by
  obtain ⟨ht, hp, hmode, hr⟩ := htu m hm
  obtain ⟨hs, hp', hmode', hr'⟩ := hst m ht
  exact ⟨hs, hp.trans hp', hmode.trans hmode', fun hne => (hr hne).trans (hr' (hmode ▸ hne))⟩

theorem of_eq (h : t.messages = s.messages) : KeepsFilling s t := fun m => by rw [h]; exact .refl _

theorem refl (s : State) : KeepsFilling s s := of_eq rfl

theorem foldl {α : Type} {f : State → α → State} (hf : ∀ s a, KeepsFilling s (f s a)) (l : List α) (s : State) :
    KeepsFilling s (l.foldl f s) :=
  foldl_invariant (P := KeepsFilling s) (fun t a ht => ht.trans (hf t a)) l (refl s)

/-- One record written. -/
theorem write {m : MsgId} {x : Message} (h : t.messages = s.messages.write m x) (hx : (s.messages.read m).FillsAs x) :
    KeepsFilling s t := fun k => by
  rw [h, Table.read_write]
  split
  · next hk => rw [hk]; exact hx
  · exact .refl _

/-- A publisher that is JOINED stays so while its message is FILLING. -/
theorem law (hk : KeepsFilling s t) (hl : fillingLaw s)
    (hj : ∀ m, (t.messages.read m).state = .filling → s.isJoined (t.messages.read m).publisher = true →
      t.isJoined (t.messages.read m).publisher = true) : fillingLaw t := by
  refine ⟨fun m hm => ?_, fun m hm hne => ?_⟩
  · obtain ⟨hs, hp, -, -⟩ := hk m hm
    refine ⟨hj m hm (hp ▸ (hl.1 m hs).1), fun k hk' hkp => ?_⟩
    obtain ⟨hs', hp', -, -⟩ := hk k hk'
    exact (hl.1 m hs).2 k hs' (hp'.symm.trans (hkp.trans hp))
  · obtain ⟨hs, -, hmode, hr⟩ := hk m hm
    exact (hr hne).trans (hl.2 m hs (hmode ▸ hne))

theorem law_of_members (hk : KeepsFilling s t) (hl : fillingLaw s) (hm : t.members = s.members) : fillingLaw t :=
  hk.law hl fun _ _ hj => (isJoined_of_members_eq hm _).trans hj

end KeepsFilling

theorem keepsFilling_release (m : MsgId) (s : State) : KeepsFilling s (release m s) := by
  refine .write (release_messages m s) ?_
  split
  · exact Message.fillsAs_of_not_filling nofun
  · exact fun hf => ⟨hf, rfl, rfl, fun _ => Nat.sub_le _ 1⟩

theorem keepsFilling_markAborted (m : MsgId) (s : State) : KeepsFilling s (s.markAborted m) := by
  refine .write (m := m) rfl fun hf => ?_
  dsimp only at hf
  split at hf
  · cases hf
  · exact ⟨hf, rfl, rfl, fun _ => le_rfl⟩

theorem keepsFilling_abortMessage (m : MsgId) (s : State) : KeepsFilling s (abortMessage m s) :=
  ((keepsFilling_markAborted m s).trans (keepsFilling_release m _)).trans (.of_eq (abortMessage_messages m s))

theorem keepsFilling_removeEntry (h : HostId) (e : EntryId) (s : State) : KeepsFilling s (removeEntry h e s) :=
  fun m => (removeEntry_fades h e s m).fillsAs

theorem keepsFilling_removeEntries (h : HostId) (es : List EntryId) (s : State) :
    KeepsFilling s (removeEntries h es s) := fun m => (removeEntries_fades h es s m).fillsAs

theorem keepsFilling_unsubscribed (h : HostId) (s : State) : KeepsFilling s (s.unsubscribed h) :=
  fun m => (unsubscribed_fades h s m).fillsAs

/-- References come to STREAMING messages alone while these are FILLING (R64). -/
theorem keepsFilling_appendEntry {h : HostId} {m : MsgId} {i : SubId} {e : EntryId} {s : State}
    (hm : (s.messages.read m).state = .filling → (s.messages.read m).mode = .streaming) :
    KeepsFilling s (appendEntry h m i e s) := by
  rw [appendEntry_eq]
  exact .write rfl fun hf => ⟨hf, rfl, rfl, fun hne => absurd (hm hf) hne⟩

theorem keepsFilling_deliver {m : MsgId} {h : HostId} {i : SubId} {s : State}
    (hm : (s.messages.read m).state = .filling → (s.messages.read m).mode = .streaming) :
    KeepsFilling s (deliver m h i s) := by
  obtain ⟨-, e, -, ho⟩ | ⟨n, ho⟩ | ⟨-, -, e, -, ho⟩ := deliver_cases m h i s <;> rw [ho]
  · exact keepsFilling_appendEntry hm
  · exact .of_eq (by simp)
  · have hgone : KeepsFilling s (reportDrop h (dropNotice i (s.messages.read (s.entries.read e).message) .displaced)
        (removeEntry h e s)) := (keepsFilling_removeEntry h e s).trans (.of_eq (by simp))
    refine hgone.trans (keepsFilling_appendEntry fun hf => ?_)
    obtain ⟨hs, -, hmode, -⟩ := hgone m hf
    exact hmode.trans (hm hs)

theorem keepsFilling_createDeliveries {m : MsgId} {s : State}
    (hm : (s.messages.read m).state = .filling → (s.messages.read m).mode = .streaming) :
    KeepsFilling s (createDeliveries m s) := by
  unfold createDeliveries
  refine foldl_invariant (P := KeepsFilling s) (fun t a ht => ht.trans (keepsFilling_deliver fun hf => ?_)) _ (.refl s)
  obtain ⟨hs, -, hmode, -⟩ := ht m hf
  exact hmode.trans (hm hs)

theorem keepsFilling_sealMessage (m : MsgId) (s : State) : KeepsFilling s (sealMessage m s) := by
  have hmark : KeepsFilling s (s.modMessage m fun x => { x with state := .sealed }) :=
    .write (m := m) rfl (Message.fillsAs_of_not_filling nofun)
  unfold sealMessage
  dsimp only
  split
  · exact hmark.trans (keepsFilling_createDeliveries fun hf => by simp at hf)
  · exact hmark

theorem keepsFilling_appendBytes (m : MsgId) (bytes : List Byte) (s : State) :
    KeepsFilling s (appendBytes m bytes s) := by
  obtain ⟨hd, tl, n, hm⟩ := appendBytes_messages m bytes s
  exact .write hm fun hf => ⟨hf, rfl, rfl, fun _ => le_rfl⟩

theorem keepsFilling_closeChannel (c : ChanId) (s : State) : KeepsFilling s (closeChannel c s) := by
  have haborts : KeepsFilling s (closeAborts c s) :=
    .foldl (fun s m => (keepsFilling_abortMessage m s).trans (.of_eq (post_frame _ _ _).2.2.2.2.2.2.2.1)) _ s
  have hsubs : KeepsFilling (closeAborts c s) (closeSubscriptions c (closeAborts c s)) :=
    .of_eq (foldl_keeps State.messages _ _ _ (by simp [closeSubscription]))
  exact (haborts.trans hsubs).trans (.of_eq rfl)

theorem keepsFilling_silenced (h : HostId) (s : State) : KeepsFilling s (s.silenced h) := by
  refine (keepsFilling_unsubscribed h s).trans ?_
  refine .trans (t := abortFillingOf h (s.unsubscribed h)) ?_ (.of_eq (withdraw_messages h _))
  unfold abortFillingOf
  split
  · exact keepsFilling_abortMessage _ _
  · exact .refl _

theorem keepsFilling_exchangeClear (s : State) : KeepsFilling s (exchangeClear s) := fun m =>
  Message.fillsAs_of_not_filling (by rw [(cleared_exchangeClear s).tables.1 m]; nofun)

theorem keepsFilling_judgeVote (s : State) : KeepsFilling s (judgeVote s) := by
  unfold judgeVote
  split
  · exact .refl s
  split
  · exact .of_eq (by simp)
  split
  · exact .trans (t := { s with vote := none }) (.of_eq rfl) (keepsFilling_exchangeClear _)
  · exact .refl s

theorem keepsFilling_withdrawVote (h : HostId) (s : State) : KeepsFilling s (withdrawVote h s) := by
  unfold withdrawVote
  exact .trans (t := { s with vote := s.vote.map fun v => { v with voters := HostSet.erase v.voters h } }) (.of_eq rfl)
    (keepsFilling_judgeVote _)

theorem keepsFilling_dismantle (h : HostId) (final : Membership) (s : State) : KeepsFilling s (dismantle h final s) :=
  (keepsFilling_silenced h s).trans (.of_eq (dismantle_messages h final s))

theorem keepsFilling_teardown (h : HostId) (final : Membership) (n : Notice) (s : State) :
    KeepsFilling s (teardown h final n s) := by
  rw [teardown_eq]
  exact ((keepsFilling_dismantle h final s).trans (keepsFilling_withdrawVote h _)).trans (.of_eq (by simp))


/-! ## The law of FILLING messages, effect by effect -/

/-- BEGIN's message is the one FILLING message of a JOINED host, and the hold its one reference but on a STREAMING
channel (R60, R64). -/
theorem fillingLaw_startMessage {h : HostId} {r : Request} {i : ChanId} {m : MsgId} {s : State} (hl : fillingLaw s)
    (hj : s.isJoined h = true) (hf : s.fillingOf h = none) : fillingLaw (startMessage h r i m s) := by
  let t := (s.modMessage m (fun _ => newMessage h r i (s.channels.read i))).modChannel i
    (fun x => { x with nextSequence := x.nextSequence + 1, liveCount := x.liveCount + 1 })
  have ht : ∀ g, t.isJoined g = s.isJoined g := fun _ => rfl
  have hm : ∀ k, t.messages.read k = if k = m then newMessage h r i (s.channels.read i) else s.messages.read k :=
    fun k => Table.read_update _ _ _ _
  have hmade : fillingLaw t := by
    refine ⟨fun k hk => ?_, fun k hk hne => ?_⟩
    · rw [hm] at hk ⊢
      split at hk
      · next hkm =>
        refine ⟨by simpa [hkm, newMessage, ht] using hj, fun j hj' hp => ?_⟩
        rw [hm] at hj' hp
        split at hj'
        · next hjm => rw [hjm, hkm]
        · next hjm => exact absurd (by simpa [hkm, hjm, newMessage] using hp) (fillingOf_none hf j hj')
      · next hkm =>
        refine ⟨by simpa [hkm, ht] using (hl.1 k hk).1, fun j hj' hp => ?_⟩
        rw [hm] at hj' hp
        split at hj'
        · next hjm => exact absurd (by simpa [hkm, hjm, newMessage] using hp.symm) (fillingOf_none hf k hk)
        · next hjm => exact (hl.1 k hk).2 j hj' (by simpa [hkm, hjm] using hp)
    · rw [hm] at hk hne ⊢
      split at hk
      · next hkm => rw [if_pos hkm]; exact le_rfl
      · next hkm =>
        rw [if_neg hkm] at hne ⊢
        exact hl.2 k hk hne
  unfold startMessage
  dsimp only
  split
  · next hstream =>
    refine (keepsFilling_createDeliveries (m := m) (s := t) fun _ => ?_).law_of_members hmade (by simp)
    rw [hm m, if_pos rfl]
    exact hstream
  · exact hmade

theorem closeTransaction_keeps (h : HostId) (s : State) :
    (closeTransaction h s).messages = s.messages ∧ (closeTransaction h s).members = s.members := by simp

theorem keepsFilling_commitTake (h : HostId) (p : Commit) (s : State) : KeepsFilling s (commitTake h p s) := by
  unfold commitTake
  split
  · next e n last _ =>
    have hmoved : KeepsFilling s (s.modEntry e fun x => { x with offset := x.offset + n }) := .of_eq rfl
    dsimp only
    split
    · exact (hmoved.trans (keepsFilling_removeEntry h e _)).trans (.of_eq rfl)
    · exact hmoved
  · exact keepsFilling_removeEntry h _ s
  · exact .refl s

theorem answerTakeHead_messages (h : HostId) (n : Nat) (e : EntryId) (s : State) :
    (answerTakeHead h n e s).messages = s.messages ∧ (answerTakeHead h n e s).members = s.members := by
  unfold answerTakeHead
  dsimp only
  split <;> exact ⟨rfl, rfl⟩

theorem keepsFilling_storeThreshold (h : HostId) (b : Word16) (s : State) : KeepsFilling s (storeThreshold h b s) := by
  unfold storeThreshold
  dsimp only
  split <;> exact .of_eq rfl

theorem storeThreshold_member (h : HostId) (b : Word16) (s : State) :
    (storeThreshold h b s).members = s.members.update h fun x => { x with creditThreshold := b.toNat } := by
  unfold storeThreshold
  dsimp only
  split <;> simp

/-- Host records that keep their states. -/
theorem isJoined_of_update {s t : State} {h : HostId} {f : Member → Member} (ht : t.members = s.members.update h f)
    (hf : ∀ x, (f x).state = x.state) (g : HostId) : t.isJoined g = s.isJoined g := by
  rw [State.isJoined, ht, Table.read_update]
  split
  · next hg => rw [hf, hg, State.isJoined]
  · rfl

theorem modMember_isJoined (s : State) (h : HostId) {f : Member → Member} (hf : ∀ x, (f x).state = x.state)
    (g : HostId) : (s.modMember h f).isJoined g = s.isJoined g := isJoined_of_update rfl hf g

theorem commitTake_members (h : HostId) (p : Commit) (s : State) : (commitTake h p s).members = s.members := by
  unfold commitTake
  split
  · dsimp only
    split <;> simp
  · simp
  · rfl

theorem closeChannel_members (i : ChanId) (s : State) : (closeChannel i s).members = s.members := by
  have haborts : (closeAborts i s).members = s.members := foldl_keeps State.members _ _ _ (by simp [closeAbort])
  have hsubs : (closeSubscriptions i (closeAborts i s)).members = (closeAborts i s).members :=
    foldl_keeps State.members _ _ _ (by simp [closeSubscription])
  exact hsubs.trans haborts

theorem sealMessage_members (m : MsgId) (s : State) : (sealMessage m s).members = s.members := by
  unfold sealMessage
  dsimp only
  split <;> simp

theorem teardown_members (h : HostId) (final : Membership) (n : Notice) (s : State) :
    (teardown h final n s).members =
      s.members.write h { s.members.read h with state := final, leaseDeadline := none } := by
  rw [teardown_eq, (postAll_frame n _).2.2.2.2.2.2.2.2.2.2.2.2.2.2.2.2.1, withdrawVote_members, dismantle_members]

/-- A host other than the one that departs is JOINED as before. -/
theorem teardown_isJoined_ne {h g : HostId} (final : Membership) (n : Notice) (s : State) (hg : g ≠ h) :
    (teardown h final n s).isJoined g = s.isJoined g := by
  rw [State.isJoined, teardown_members, Table.read_write_ne _ _ hg, State.isJoined]

/-- Every effect keeps the law of FILLING messages. -/
theorem fillingLaw_effect {F : Prop} {c : Instr} {s t : State} (he : Effect F c s t) (hl : fillingLaw s) :
    fillingLaw t := by
  have of_eq : t.messages = s.messages → (∀ g, s.isJoined g = true → t.isJoined g = true) → fillingLaw t :=
    fun hm hj => (KeepsFilling.of_eq hm).law hl fun _ _ => hj _
  have of_members : t.messages = s.messages → t.members = s.members → fillingLaw t :=
    fun hm hj => (KeepsFilling.of_eq hm).law_of_members hl hj
  cases he with
  | links hs => rw [hs.same]; exact hl
  | judged => exact (keepsFilling_judgeVote s).law_of_members hl (by simp)
  | admitted r => exact of_eq (by simp [admitMember]) fun g hg => by simp [admitMember_isJoined, hg]
  | departed final n _ hfinal =>
    refine (keepsFilling_teardown _ final n s).law hl fun m hm hj => ?_
    rw [teardown_isJoined_ne _ _ _ (teardown_filling n s hfinal hl hm)]
    exact hj
  | setLease => exact of_eq rfl fun g hg => (modMember_isJoined _ _ (by intro _; rfl) g).trans hg
  | setMask => exact of_eq rfl fun g hg => (modMember_isJoined _ _ (by intro _; rfl) g).trans hg
  | setThreshold b =>
    exact (keepsFilling_storeThreshold _ b s).law hl fun m _ hg =>
      (isJoined_of_update (storeThreshold_member _ b s) (fun _ => rfl) _).trans hg
  | renewed h => exact of_eq (by simp) fun g hg => (renewLease_isJoined h g s).trans hg
  | tookHead => exact of_members (answerTakeHead_messages _ _ _ s).1 (answerTakeHead_messages _ _ _ s).2
  | committedTake =>
    exact (KeepsFilling.trans (.of_eq (closeTransaction_keeps _ s).1) (keepsFilling_commitTake _ _ _)).law_of_members hl
      ((commitTake_members _ _ _).trans (closeTransaction_keeps _ s).2)
  | committedNotice p => cases p <;> exact hl
  | committedCounter p => cases p <;> exact hl
  | voided => exact of_members (by simp [voidRead_eq]) (by simp [voidRead_eq])
  | closedChannel => exact (keepsFilling_closeChannel _ s).law_of_members hl (closeChannel_members _ s)
  | unsubscribed =>
    exact (KeepsFilling.trans (keepsFilling_removeEntries _ _ s) (.of_eq rfl)).law_of_members hl (by simp)
  | began hj hf =>
    refine fillingLaw_startMessage ((KeepsFilling.of_eq (by simp)).law_of_members hl (by simp)) ?_ ?_
    · simpa [State.isJoined] using hj
    · simpa [State.fillingOf] using hf
  | put => exact (keepsFilling_appendBytes _ _ s).law_of_members hl (by simp)
  | @sealed _ m =>
    have hreleased := (keepsFilling_sealMessage m s).trans (keepsFilling_release m _)
    exact (hreleased.trans (.of_eq (by simp))).law_of_members hl (by simp [sealMessage_members])
  | aborted => exact (keepsFilling_abortMessage _ s).law_of_members hl (by simp)
  | skipped => exact (keepsFilling_removeEntry _ _ s).law_of_members hl (by simp)
  | reset ht =>
    cases ht
    refine ⟨fun m hm => ?_, fun m hm => ?_⟩ <;> simp [State.reset, Message.vacant] at hm
  | _ => exact of_members (by simp) (by simp)

end Sys2Proof.Machine
end

section
/-! SUPPORT. Absent hosts through the shared operations and through every effect of a command: nothing of a host that is
not JOINED comes about (R148, R12, R106, R151, R170). -/

namespace Sys2Proof.Machine

/-- Nothing of a host is left: the words of `departedLaw` for one host. -/
structure State.Absent (s : State) (h : HostId) : Prop where
  subs : ∀ i, (s.subs.read i).state ≠ .free → (s.subs.read i).owner ≠ h
  queue : s.queues.read h = []
  filling : ∀ m, (s.messages.read m).state = .filling → (s.messages.read m).publisher ≠ h
  turn : s.turn.holder ≠ some h
  claim : s.claimants.read h = false
  vote : ∀ v, s.vote = some v → v.voters.read h = false
  notices : (s.desks.read h).notices = []
  lost : (s.desks.read h).lost = 0
  lease : (s.members.read h).leaseDeadline = none
  mark : (s.accounts.read h).exhausted = false

theorem departedLaw_iff (s : State) : departedLaw s ↔ ∀ h, s.isJoined h = false → s.Absent h :=
  forall₂_congr fun _ _ => ⟨fun ⟨a, b, c, d, e, f, g, i, j, k⟩ => ⟨a, b, c, d, e, f, g, i, j, k⟩,
    fun ⟨a, b, c, d, e, f, g, i, j, k⟩ => ⟨a, b, c, d, e, f, g, i, j, k⟩⟩

/-- An event that neither admits nor removes a host, and leaves it absent where it was. -/
structure Leaves (h : HostId) (s t : State) : Prop where
  joined : t.isJoined h = s.isJoined h
  absent : s.isJoined h = false → s.Absent h → t.Absent h

namespace Leaves

variable {h : HostId} {s t u : State}

theorem trans (hst : Leaves h s t) (htu : Leaves h t u) : Leaves h s u where
  joined := htu.joined.trans hst.joined
  absent hj ha := htu.absent (hst.joined.trans hj) (hst.absent hj ha)

theorem refl (h : HostId) (s : State) : Leaves h s s := ⟨rfl, fun _ ha => ha⟩

theorem foldl {α : Type} {f : State → α → State} (hf : ∀ s a, Leaves h s (f s a)) (l : List α) (s : State) :
    Leaves h s (l.foldl f s) :=
  foldl_invariant (P := Leaves h s) (fun t a ht => ht.trans (hf t a)) l (refl h s)

/-- What it takes, table by table, where the host's own record and the vote do not change. -/
theorem of_tables (hmember : t.members.read h = s.members.read h) (hvote : t.vote = s.vote)
    (hsubs : ∀ i, (t.subs.read i).state ≠ .free →
      (s.subs.read i).state ≠ .free ∧ (t.subs.read i).owner = (s.subs.read i).owner)
    (hqueue : s.queues.read h = [] → t.queues.read h = []) (hfilling : KeepsFilling s t)
    (hturn : t.turn.holder = some h → s.turn.holder = some h ∨ s.claimants.read h = true)
    (hclaim : t.claimants.read h = true → s.claimants.read h = true)
    (hdesk : s.isJoined h = false →
      (t.desks.read h).notices = (s.desks.read h).notices ∧ (t.desks.read h).lost = (s.desks.read h).lost)
    (hmark : s.isJoined h = false → (t.accounts.read h).exhausted = true → (s.accounts.read h).exhausted = true) :
    Leaves h s t := by
  refine ⟨by rw [State.isJoined, hmember, State.isJoined], fun hj ha => ⟨fun i hi => ?_, hqueue ha.queue, fun m hm => ?_,
    fun ht => ?_, ?_, hvote ▸ ha.vote, (hdesk hj).1.trans ha.notices, (hdesk hj).2.trans ha.lost, hmember ▸ ha.lease,
    Bool.eq_false_iff.2 fun hx => by simpa [ha.mark] using hmark hj hx⟩⟩
  · obtain ⟨hused, howner⟩ := hsubs i hi
    exact howner ▸ ha.subs i hused
  · obtain ⟨hfill, hpub, -, -⟩ := hfilling m hm
    exact hpub ▸ ha.filling m hfill
  · obtain ht | hc := hturn ht
    · exact ha.turn ht
    · simp [ha.claim] at hc
  · exact Bool.eq_false_iff.2 fun hc => by simpa [ha.claim] using hclaim hc

/-- The tables and the turn are as they were, but for messages that are not FILLING. -/
theorem of_messages (hmember : t.members.read h = s.members.read h) (hvote : t.vote = s.vote) (hsubs : t.subs = s.subs)
    (hqueues : t.queues = s.queues) (hfilling : KeepsFilling s t) (hturn : t.turn = s.turn)
    (hclaim : t.claimants = s.claimants)
    (hdesk : s.isJoined h = false →
      (t.desks.read h).notices = (s.desks.read h).notices ∧ (t.desks.read h).lost = (s.desks.read h).lost)
    (hmark : t.accounts.read h = s.accounts.read h) : Leaves h s t :=
  of_tables hmember hvote (fun i hi => by rw [hsubs] at hi ⊢; exact ⟨hi, rfl⟩) (fun hq => by rw [hqueues, hq]) hfilling
    (fun ht => .inl (hturn ▸ ht)) (fun hc => hclaim ▸ hc) hdesk fun _ hx => hmark ▸ hx

/-- A desk that keeps its notices. -/
theorem modDesk (s : State) (g : HostId) {f : Desk → Desk} (hf : ∀ d, (f d).notices = d.notices ∧ (f d).lost = d.lost) :
    Leaves h s (s.modDesk g f) := by
  refine of_messages rfl rfl rfl rfl (.refl s) rfl rfl (fun _ => ?_) rfl
  rw [State.modDesk_desks, Table.read_update]
  split
  · next hg => rw [hg]; exact hf _
  · exact ⟨rfl, rfl⟩

/-- A host record that keeps its state and its deadline. -/
theorem modMember (s : State) (g : HostId) {f : Member → Member}
    (hf : ∀ x, (f x).state = x.state ∧ (f x).leaseDeadline = x.leaseDeadline) : Leaves h s (s.modMember g f) := by
  refine ⟨modMember_isJoined s g (fun x => (hf x).1) h, fun _ ⟨a, b, c, d, e, v, n, l, lease, mark⟩ =>
    ⟨a, b, c, d, e, v, n, l, ?_, mark⟩⟩
  rw [State.modMember_members, Table.read_update]
  split
  · next hg => rw [(hf _).2, ← hg]; exact lease
  · exact lease

end Leaves

section
variable {h : HostId}

theorem placeOf {s t : State} (hk : KeepsSubscriptions s t) {i : SubId} (hi : (t.subs.read i).state ≠ .free) :
    (s.subs.read i).state ≠ .free ∧ (t.subs.read i).owner = (s.subs.read i).owner :=
  ⟨((hk.subs i).place hi).1, ((hk.subs i).place hi).2.1⟩

/-! ## Latches, notices and the arbiter -/

theorem leaves_latch (g : HostId) (c : Cause) (s : State) : Leaves h s (latch g c s) := .modDesk s g fun _ => ⟨rfl, rfl⟩

theorem leaves_modCounters (g : HostId) (f : Counters → Counters) (s : State) : Leaves h s (s.modCounters g f) :=
  .modDesk s g fun _ => ⟨rfl, rfl⟩

/-- No notice is posted to a host that is not JOINED (R168). -/
theorem leaves_post (g : HostId) (n : Notice) (s : State) : Leaves h s (post g n s) := by
  refine .of_messages (by simp) (by simp) (by simp) (by simp) (.of_eq (by simp)) (by simp) (by simp) (fun hj => ?_)
    (by simp)
  rw [post_eq]
  split
  · next hg =>
    have hne : h ≠ g := fun he => by simp [he, hg] at hj
    simp [State.setDesk, Table.read_write_ne _ _ hne]
  · exact ⟨rfl, rfl⟩

theorem leaves_postAll (n : Notice) (s : State) : Leaves h s (postAll n s) :=
  .foldl (fun s g => leaves_post g n s) _ s

theorem leaves_reportDrop (g : HostId) (n : Notice) (s : State) : Leaves h s (reportDrop g n s) :=
  (leaves_modCounters g _ s).trans (leaves_post g n _)

theorem leaves_reevaluate (s : State) : Leaves h s (reevaluate s) := by
  obtain ⟨d, he, hd⟩ := reevaluate_eq s
  rw [he]
  refine .of_tables rfl rfl (fun _ hi => ⟨hi, rfl⟩) id (.of_eq rfl) ?_ ?_ (fun _ => ?_) fun _ => id
  · dsimp only
    split
    · nofun
    · exact .inl
  · dsimp only
    split
    · simp
    · exact id
  · dsimp only
    rw [hd]
    split <;> exact ⟨rfl, rfl⟩

/-- A turn passes to a claimant (R117). -/
theorem leaves_endTurn (s : State) : Leaves h s (endTurn s) := by
  obtain ⟨-, he⟩ | ⟨g, hg, he⟩ := endTurn_cases s <;> rw [he]
  · exact .of_tables rfl rfl (fun _ hi => ⟨hi, rfl⟩) id (.of_eq rfl) nofun id (fun _ => ⟨rfl, rfl⟩) fun _ => id
  · refine .of_tables rfl rfl (fun _ hi => ⟨hi, rfl⟩) id (.of_eq rfl) (fun ht => ?_) (fun hc => ?_) (fun _ => ?_)
      fun _ => id
    · cases ht
      exact .inr (nextClaimant_claims hg)
    · rw [HostSet.read_erase] at hc
      split at hc <;> simp_all
    · rw [Table.read_write]
      split
      · next hh => rw [hh]; exact ⟨rfl, rfl⟩
      · exact ⟨rfl, rfl⟩

theorem leaves_endTurnOf (g : HostId) (s : State) : Leaves h s (endTurnOf g s) := by
  unfold endTurnOf
  split
  · split
    · exact leaves_endTurn s
    · exact .refl h s
  · exact .refl h s

/-! ## Messages and entries -/

theorem leaves_freeMessage (m : MsgId) (s : State) : Leaves h s (freeMessage m s) := by
  have hf := freed_freeMessage m s
  refine .of_tables (by simp) (by simp) (fun i hi => ?_) (fun hq => by simpa using hq)
    (.write hf.messages (Message.fillsAs_of_not_filling nofun)) ?_ ?_ (fun _ => ?_) fun hj hx => ?_
  · rw [hf.frame.2.2.2.2.1] at hi ⊢
    exact ⟨hi, rfl⟩
  · rw [hf.turn]
    split
    · nofun
    · exact .inl
  · rw [hf.claimants]
    split
    · simp
    · exact id
  · rw [hf.desks]
    exact ⟨rfl, rfl⟩
  · rwa [hf.mark, if_neg (by simp [hj])] at hx

/-- A message written, with no FILLING one more. -/
theorem leaves_writeMessage {s : State} {m : MsgId} {x : Message} (hx : (s.messages.read m).FillsAs x) :
    Leaves h s { s with messages := s.messages.write m x } :=
  .of_messages rfl rfl rfl rfl (.write rfl hx) rfl rfl (fun _ => ⟨rfl, rfl⟩) rfl

theorem leaves_release (m : MsgId) (s : State) : Leaves h s (release m s) := by
  have hcount : Leaves h s
      { s with messages := s.messages.write m ({ s.messages.read m with refCount := (s.messages.read m).refCount - 1 }) } :=
    leaves_writeMessage fun hf => ⟨hf, rfl, rfl, fun _ => Nat.sub_le _ 1⟩
  rw [release_eq]
  split
  · exact hcount.trans (leaves_freeMessage m _)
  · exact hcount

theorem leaves_markAborted (m : MsgId) (s : State) : Leaves h s (s.markAborted m) :=
  .of_messages rfl rfl rfl rfl (keepsFilling_markAborted m s) rfl rfl (fun _ => ⟨rfl, rfl⟩) rfl

theorem leaves_abortMessage (m : MsgId) (s : State) : Leaves h s (abortMessage m s) := by
  rw [abortMessage_eq]
  exact (((leaves_markAborted m s).trans (leaves_release m _)).trans (leaves_modCounters _ _ _)).trans
    (leaves_endTurnOf _ _)

/-- What a subscription record is once an entry has left its queue. -/
theorem unqueued_sub (g : HostId) (e : EntryId) (s : State) (i : SubId) :
    (s.unqueued g e).subs.read i = if (s.entries.read e).subscription = some i
      then { s.subs.read i with queued := (s.subs.read i).queued - 1 } else s.subs.read i := by
  unfold State.unqueued
  cases (s.entries.read e).subscription with
  | none => simp
  | some k =>
    simp only [Table.read_write, Option.some.injEq, eq_comm (a := k)]
    split
    · next hk => rw [hk]
    · rfl

theorem leaves_unqueued (g : HostId) (e : EntryId) (s : State) : Leaves h s (s.unqueued g e) := by
  refine .of_tables rfl rfl (fun i hi => ?_) (fun hq => ?_) (.of_eq rfl) .inl id (fun _ => ⟨rfl, rfl⟩) fun _ => id
  · rw [unqueued_sub] at hi ⊢
    split at hi
    · next hk => rw [if_pos hk]; exact ⟨hi, rfl⟩
    · next hk => rw [if_neg hk]; exact ⟨hi, rfl⟩
  · unfold State.unqueued
    dsimp only
    rw [Table.read_write]
    split
    · next hg => rw [← hg, hq]; rfl
    · exact hq

theorem leaves_removeEntry (g : HostId) (e : EntryId) (s : State) : Leaves h s (removeEntry g e s) := by
  rw [removeEntry_eq]
  exact (leaves_unqueued g e s).trans (leaves_release _ _)

theorem leaves_removeEntries (g : HostId) (es : List EntryId) (s : State) : Leaves h s (removeEntries g es s) :=
  .foldl (fun s e => leaves_removeEntry g e s) es s

theorem leaves_freeSubscription (i : SubId) (s : State) : Leaves h s (freeSubscription i s) :=
  .of_tables rfl rfl (fun _ hj => placeOf (keepsSubscriptions_freeSubscription i s) hj) id (.of_eq rfl) .inl id
    (fun _ => ⟨rfl, rfl⟩) fun _ => id

/-! ## Deliveries -/

/-- A delivery to another host. -/
theorem leaves_appendEntry {g : HostId} (m : MsgId) (i : SubId) (e : EntryId) (s : State) (hg : h ≠ g)
    (hm : (s.messages.read m).state = .filling → (s.messages.read m).mode = .streaming) :
    Leaves h s (appendEntry g m i e s) := by
  refine .of_tables (by simp) (by simp) (fun j hj => ?_) (fun hq => ?_) (keepsFilling_appendEntry hm)
    (fun ht => .inl (by simpa using ht)) (fun hc => by simpa using hc) (fun _ => ?_) fun _ => by simp
  · rw [appendEntry_eq, State.appended] at hj ⊢
    dsimp only at hj ⊢
    rw [Table.read_write] at hj ⊢
    split at hj
    · next hi => rw [if_pos hi, hi]; exact ⟨hj, rfl⟩
    · next hi => rw [if_neg hi]; exact ⟨hj, rfl⟩
  · rw [appendEntry_eq, State.appended, Table.read_write_ne _ _ hg, hq]
  · rw [appendEntry_eq, State.appended, Table.read_write_ne _ _ hg]
    exact ⟨rfl, rfl⟩

theorem leaves_deliver {g : HostId} (m : MsgId) (i : SubId) (s : State) (hg : h ≠ g)
    (hm : (s.messages.read m).state = .filling → (s.messages.read m).mode = .streaming) :
    Leaves h s (deliver m g i s) := by
  obtain ⟨-, e, -, ho⟩ | ⟨n, ho⟩ | ⟨-, -, e, -, ho⟩ := deliver_cases m g i s <;> rw [ho]
  · exact leaves_appendEntry m i e s hg hm
  · exact leaves_reportDrop g n s
  · rw [displace]
    refine ((leaves_removeEntry g e s).trans (leaves_reportDrop g _ _)).trans (leaves_appendEntry m i _ _ hg fun hf => ?_)
    simp only [reportDrop_frame] at hf ⊢
    obtain ⟨hfill, -, hmode, -⟩ := keepsFilling_removeEntry g e s m hf
    exact hmode.trans (hm hfill)

theorem Subscription.passes_active {x : Subscription} {m : Message} (hx : x.passes m = true) : x.state = .active := by
  unfold Subscription.passes at hx
  simp only [Bool.and_eq_true, beq_iff_eq, and_assoc] at hx
  exact hx.1

/-- What holds along a fold whose steps keep it for the members of the list. -/
theorem foldl_invariant_mem {σ α : Type} {P : σ → Prop} {f : σ → α → σ} :
    ∀ {l : List α} {s : σ}, (∀ s, ∀ a ∈ l, P s → P (f s a)) → P s → P (l.foldl f s)
  | [], _, _, hs => hs
  | a :: l, _, hf, hs =>
    foldl_invariant_mem (l := l) (fun s b hb => hf s b (.tail a hb)) (hf _ a List.mem_cons_self hs)

/-- A message is delivered to the owners of live subscriptions, and an absent host owns none. -/
theorem leaves_createDeliveries (m : MsgId) (s : State)
    (hm : (s.messages.read m).state = .filling → (s.messages.read m).mode = .streaming) :
    Leaves h s (createDeliveries m s) := by
  refine ⟨isJoined_of_members_eq (by simp) h, fun hj ha => ?_⟩
  have howner : ∀ p ∈ s.targets m, h ≠ p.1 := fun (g, i) hp he => by
    obtain ⟨⟨howns, hpass⟩, -⟩ := (carrier_eq_some_iff s _ g i).1 ((mem_targets s m g i).1 hp)
    exact ha.subs i (by simp [Subscription.passes_active hpass]) (howns.trans he.symm)
  unfold createDeliveries
  refine (foldl_invariant_mem (P := fun t => KeepsFilling s t ∧ Leaves h s t) (fun t p hp ⟨hk, ht⟩ => ?_)
    ⟨.refl s, .refl h s⟩).2.absent hj ha
  have hmode : (t.messages.read m).state = .filling → (t.messages.read m).mode = .streaming := fun hf => by
    obtain ⟨hs, -, hmode, -⟩ := hk m hf
    exact hmode.trans (hm hs)
  exact ⟨hk.trans (keepsFilling_deliver hmode), ht.trans (leaves_deliver m p.2 t (howner p hp) hmode)⟩

end

end Sys2Proof.Machine
end

section
/-! SUPPORT. Absent hosts through the requests, the teardown of another host and the clear vote, and the law that a host
which is not JOINED has nothing (R60, R148). -/

namespace Sys2Proof.Machine

section
variable {h : HostId}

/-! ## Publishing -/

/-- The mark of a host that is not JOINED is not judged (R11). -/
theorem setCharge_unjudged {g : HostId} (c : Nat) {s : State} (hj : s.isJoined h = false) :
    ((setCharge g c s).accounts.read h).exhausted = (s.accounts.read h).exhausted
      ∧ (setCharge g c s).desks.read h = s.desks.read h := by
  by_cases hg : h = g
  · subst hg
    rw [setCharge_eq, if_neg (by simp [hj])]
    simp
  · rw [(setCharge_others c s hg).1, (setCharge_others c s hg).2]
    exact ⟨rfl, rfl⟩

theorem leaves_setCharge (g : HostId) (c : Nat) (s : State) : Leaves h s (setCharge g c s) := by
  refine .of_tables (by simp) (by simp) (fun i hi => ?_) (fun hq => by simpa using hq) (.of_eq (by simp))
    (fun ht => .inl (by simpa using ht)) (fun hc => by simpa using hc) (fun hj => ?_) fun hj hx => ?_
  · simpa using hi
  · rw [(setCharge_unjudged c hj).2]
    exact ⟨rfl, rfl⟩
  · rwa [(setCharge_unjudged c hj).1] at hx

/-- A chain that grows or is filled concerns no host. -/
theorem keepsFilling_of_sameButChain {m : MsgId} {s t : State} (hm : SameButChain m s t) : KeepsFilling s t := by
  obtain ⟨hd, tl, n, hm⟩ := hm
  exact .write hm fun hf => ⟨hf, rfl, rfl, fun _ => le_rfl⟩

theorem leaves_chargeCells (m : MsgId) (k : Nat) (s : State) : Leaves h s (chargeCells m k s) := by
  unfold chargeCells
  split
  · exact .refl h s
  split
  · exact .refl h s
  next run t ht =>
  have htaken : Leaves h s t := by
    unfold takeCells at ht
    split at ht <;> cases ht
    exact .of_messages (by simp) (by simp) (by simp) (by simp) (.of_eq (by simp)) (by simp) (by simp)
      (fun _ => by simp) (by simp)
  refine ((htaken.trans (leaves_setCharge (t.messages.read m).publisher
    ((t.accounts.read (t.messages.read m).publisher).charge + k) t)).trans (leaves_reevaluate _)).trans ?_
  exact .of_messages (by simp) (by simp) (by simp) (by simp) (keepsFilling_of_sameButChain (sameButChain_attachRun _ _ _))
    (by simp) (by simp) (fun _ => by simp) (by simp)

theorem leaves_appendBytes (m : MsgId) (bytes : List Byte) (s : State) : Leaves h s (appendBytes m bytes s) := by
  rw [appendBytes_eq]
  refine (leaves_chargeCells m (newCells (s.messages.read m).length bytes.length) s).trans ?_
  exact .of_messages rfl rfl rfl rfl (.write (m := m) rfl fun hf => ⟨hf, rfl, rfl, fun _ => le_rfl⟩) rfl rfl
    (fun _ => ⟨rfl, rfl⟩) rfl

theorem leaves_sealMessage (m : MsgId) (s : State) : Leaves h s (sealMessage m s) := by
  have hmark : Leaves h s (s.modMessage m fun x => { x with state := .sealed }) :=
    leaves_writeMessage (Message.fillsAs_of_not_filling nofun)
  unfold sealMessage
  dsimp only
  split
  · exact hmark.trans (leaves_createDeliveries m _ fun hf => by simp at hf)
  · exact hmark

/-- A JOINED host begins a message (R64). -/
theorem leaves_startMessage {g : HostId} (r : Request) (i : ChanId) (m : MsgId) {s : State} (hg : s.isJoined g = true) :
    Leaves h s (startMessage g r i m s) := by
  have hmade : Leaves h s ((s.modMessage m (fun _ => newMessage g r i (s.channels.read i))).modChannel i
      (fun x => { x with nextSequence := x.nextSequence + 1, liveCount := x.liveCount + 1 })) := by
    refine ⟨rfl, fun hj ⟨a, b, c, d, e, v, n, l, lease, mark⟩ => ⟨a, b, fun k hk => ?_, d, e, v, n, l, lease, mark⟩⟩
    rw [State.modChannel_messages, State.modMessage_messages, Table.read_update] at hk ⊢
    split at hk
    · next hkm =>
      rw [if_pos hkm]
      exact fun he => by rw [← he] at hj; exact absurd hg (by simpa [newMessage] using hj)
    · next hkm => rw [if_neg hkm]; exact c k hk
  unfold startMessage
  dsimp only
  split
  · next hstream =>
    refine hmade.trans (leaves_createDeliveries m _ fun _ => ?_)
    simpa [newMessage] using hstream
  · exact hmade

/-- A JOINED host asks for a turn (R114, R115). -/
theorem leaves_arbitrate {g : HostId} {s : State} (hg : s.isJoined g = true) : Leaves h s (arbitrate g s).1 := by
  obtain ⟨-, ho⟩ | ⟨-, d, ho, -⟩ | ⟨-, ho, -⟩ := arbitrate_cases g s <;> rw [ho]
  · exact .refl h s
  · refine ⟨rfl, fun hj ⟨a, b, c, _, e, v, n, l, lease, mark⟩ => ⟨a, b, c, fun ht => ?_, e, v, n, l, lease, mark⟩⟩
    cases ht
    simp [hg] at hj
  · refine ⟨rfl, fun hj ⟨a, b, c, d, e, v, n, l, lease, mark⟩ => ⟨a, b, c, d, ?_, v, n, l, lease, mark⟩⟩
    have hne : h ≠ g := fun he => by simp [he, hg] at hj
    simp [HostSet.read_insert, hne, e]

/-! ## Subscriptions and channels -/

theorem leaves_modChannel (i : ChanId) (f : Channel → Channel) (s : State) : Leaves h s (s.modChannel i f) :=
  .of_messages rfl rfl rfl rfl (.refl s) rfl rfl (fun _ => ⟨rfl, rfl⟩) rfl

theorem leaves_closeChannel (c : ChanId) (s : State) : Leaves h s (closeChannel c s) := by
  have haborts : Leaves h s (closeAborts c s) :=
    .foldl (fun s m => (leaves_abortMessage m s).trans (leaves_post _ _ _)) _ s
  have hsubs : Leaves h (closeAborts c s) (closeSubscriptions c (closeAborts c s)) :=
    .foldl (fun s i => (leaves_freeSubscription i s).trans (leaves_post _ _ _)) _ _
  exact (haborts.trans hsubs).trans (leaves_modChannel _ _ _)

/-! ## The teardown of another host (R154) -/

theorem leaves_withdraw (g : HostId) (s : State) : Leaves h s (withdraw g s) := by
  have hclaim : Leaves h s { s with claimants := HostSet.erase s.claimants g } :=
    .of_tables rfl rfl (fun _ hi => ⟨hi, rfl⟩) id (.of_eq rfl) .inl
      (fun hc => by rw [HostSet.read_erase] at hc; split at hc <;> simp_all) (fun _ => ⟨rfl, rfl⟩) fun _ => id
  unfold withdraw
  dsimp only
  split
  · exact hclaim.trans (leaves_endTurn _)
  · exact hclaim

theorem leaves_silenced (g : HostId) (s : State) : Leaves h s (s.silenced g) := by
  have hfree : Leaves h s (freeSubscriptionsOf g s) := .foldl (fun s i => leaves_freeSubscription i s) _ s
  have habort : Leaves h (s.unsubscribed g) (abortFillingOf g (s.unsubscribed g)) := by
    unfold abortFillingOf
    split
    · exact leaves_abortMessage _ _
    · exact .refl h _
  exact ((hfree.trans (leaves_removeEntries g _ _)).trans habort).trans (leaves_withdraw g _)

theorem leaves_dismantle {g : HostId} (final : Membership) (s : State) (hg : h ≠ g) :
    Leaves h s (dismantle g final s) := by
  refine (leaves_silenced g s).trans ?_
  rw [dismantle_eq]
  refine .of_messages ?_ rfl rfl rfl (.of_eq rfl) rfl rfl (fun _ => ?_) ?_ <;>
    simp only [Table.read_write_ne _ _ hg, and_self]

/-! ## The clear vote (R161, R162) -/

/-- After an exchange clear a host that is not JOINED has nothing. -/
theorem leaves_of_cleared {s t : State} (hc : Cleared s t) : Leaves h s t := by
  obtain ⟨-, -, -, -, hmembers, -⟩ := hc.frame
  obtain ⟨hmsg, -, hsub, -, hqueue⟩ := hc.tables
  obtain ⟨hturn, hclaim, -⟩ := hc.turn
  refine ⟨isJoined_of_members_eq hmembers h, fun hj ha => ⟨fun i hi => ?_, hqueue h, fun m hm => ?_, ?_, ?_, ?_, ?_, ?_,
    hmembers ▸ ha.lease, by rw [hc.accounts h]⟩⟩
  · rw [hsub i] at hi
    exact absurd rfl hi
  · rw [hmsg m] at hm
    cases hm
  · rw [hturn]
    nofun
  · rw [hclaim]
    simp
  · rw [hc.vote]
    nofun
  · rw [hc.desks h, if_neg (by simp [hj])]
  · rw [hc.desks h, if_neg (by simp [hj])]

theorem leaves_exchangeClear (s : State) : Leaves h s (exchangeClear s) := leaves_of_cleared (cleared_exchangeClear s)

/-- A vote that closes, or loses a voter. -/
theorem leaves_vote {s : State} {o : Option Vote}
    (ho : ∀ v, o = some v → ∃ w, s.vote = some w ∧ (v.voters.read h = true → w.voters.read h = true)) :
    Leaves h s { s with vote := o } := by
  refine ⟨rfl, fun _ ⟨a, b, c, d, e, v, n, l, lease, mark⟩ => ⟨a, b, c, d, e, fun x hx => ?_, n, l, lease, mark⟩⟩
  obtain ⟨w, hw, hread⟩ := ho x hx
  exact Bool.eq_false_iff.2 fun hr => by simpa [v w hw] using hread hr

theorem leaves_voteClosed (s : State) : Leaves h s { s with vote := none } := leaves_vote nofun

theorem leaves_judgeVote (s : State) : Leaves h s (judgeVote s) := by
  unfold judgeVote
  split
  · exact .refl h s
  split
  · exact (leaves_voteClosed s).trans (leaves_postAll _ _)
  split
  · exact (leaves_voteClosed s).trans (leaves_exchangeClear _)
  · exact .refl h s

theorem leaves_withdrawVote (g : HostId) (s : State) : Leaves h s (withdrawVote g s) := by
  refine .trans (leaves_vote fun v hv => ?_) (leaves_judgeVote _)
  obtain ⟨w, hw, rfl⟩ := Option.map_eq_some_iff.1 hv
  refine ⟨w, hw, fun hr => ?_⟩
  rw [HostSet.read_erase] at hr
  split at hr
  · cases hr
  · exact hr

theorem leaves_teardown {g : HostId} (final : Membership) (n : Notice) (s : State) (hg : h ≠ g) :
    Leaves h s (teardown g final n s) :=
  ((leaves_dismantle final s hg).trans (leaves_withdrawVote g _)).trans (leaves_postAll n _)

/-- A vote that is still open after a teardown has lost the departed voter. -/
theorem teardown_voters {final : Membership} (n : Notice) (s : State) (hf : final ≠ .joined) {v : Vote}
    (hv : (teardown h final n s).vote = some v) : v.voters.read h = false := by
  rw [teardown_vote] at hv
  obtain ⟨hn, he⟩ | ⟨w, hw, ⟨-, htold, -⟩ | ⟨-, ⟨-, hc⟩ | ⟨-, he⟩⟩⟩ :=
    withdrawVote_cases (dismantle_isJoined_self h s hf)
  · rw [he, hn] at hv
    cases hv
  · rw [congrArg State.vote htold] at hv
    cases hv
  · rw [hc.vote] at hv
    cases hv
  · rw [he] at hv
    cases hv
    simp [HostSet.read_erase]

/-- Nothing of a host is left after its own teardown (R154, R155). -/
theorem absent_teardown {final : Membership} (n : Notice) {s : State} (hf : final ≠ .joined) (hl : fillingLaw s) :
    (teardown h final n s).Absent h where
  subs i hi := by
    obtain ⟨hsub, -⟩ | ⟨hsub, -⟩ := teardown_tables (h := h) n s hf
    · rw [hsub, dismantle_subs, ← silenced_subs] at hi ⊢
      intro ho
      rw [(placeOf (keepsSubscriptions_silenced h s) hi).2] at ho
      rw [silenced_subs] at hi
      exact hi (unsubscribed_subState ho)
    · rw [hsub i] at hi
      exact absurd rfl hi
  queue := teardown_queue n s hf
  filling _ hm := teardown_filling n s hf hl hm
  turn := (teardown_turn n s hf).1
  claim := (teardown_turn n s hf).2
  vote _ hv := teardown_voters n s hf hv
  notices := (tornDown_teardown n s hf).desk.1
  lost := (tornDown_teardown n s hf).desk.2.1
  lease := by rw [teardown_members, Table.read_write_self]
  mark := teardown_mark n s hf

/-! ## The law, effect by effect -/

theorem leaves_links {s t : State} (hs : SettlesLinks s t) : Leaves h s t := by
  rw [hs.same]
  exact .of_messages rfl rfl rfl rfl (.of_eq rfl) rfl rfl (fun _ => ⟨rfl, rfl⟩) rfl

theorem leaves_closeTransaction (g : HostId) (s : State) : Leaves h s (closeTransaction g s) :=
  leaves_links (settlesLinks_closeTransaction g s)

theorem leaves_modEntry (e : EntryId) (f : Entry → Entry) (s : State) : Leaves h s (s.modEntry e f) :=
  .of_messages rfl rfl rfl rfl (.of_eq rfl) rfl rfl (fun _ => ⟨rfl, rfl⟩) rfl

theorem leaves_commitTake (g : HostId) (p : Commit) (s : State) : Leaves h s (commitTake g p s) := by
  unfold commitTake
  split
  · next e n last _ =>
    have hmoved : Leaves h s (s.modEntry e fun x => { x with offset := x.offset + n }) := leaves_modEntry e _ s
    dsimp only
    split
    · exact (hmoved.trans (leaves_removeEntry g e _)).trans (leaves_modCounters _ _ _)
    · exact hmoved
  · exact leaves_removeEntry g _ s
  · exact .refl h s

theorem leaves_respond (g : HostId) (p : PendingResult) (s : State) : Leaves h s (respond g p s) :=
  .of_messages rfl rfl rfl rfl (.of_eq rfl) rfl rfl (fun _ => ⟨rfl, rfl⟩) rfl

theorem leaves_answerTakeHead (g : HostId) (n : Nat) (e : EntryId) (s : State) :
    Leaves h s (answerTakeHead g n e s) := by
  unfold answerTakeHead
  dsimp only
  split
  · exact (leaves_modEntry _ _ s).trans (leaves_respond _ _ _)
  · exact leaves_respond _ _ _

theorem leaves_voidRead (p : Option PendingResult) (s : State) : Leaves h s (voidRead p s) := by
  unfold voidRead
  split
  · exact leaves_modEntry _ _ s
  · exact .refl h s

theorem leaves_storeThreshold (g : HostId) (b : Word16) (s : State) : Leaves h s (storeThreshold g b s) := by
  have hstored : Leaves h s (s.modMember g fun x => { x with creditThreshold := b.toNat }) :=
    .modMember s g fun _ => ⟨rfl, rfl⟩
  unfold storeThreshold
  dsimp only
  split
  · refine (hstored.trans (u := (s.modMember g fun x => { x with creditThreshold := b.toNat }).modAccount g
      fun a => { a with exhausted := false }) ?_).trans (leaves_latch _ _ _)
    refine .of_tables rfl rfl (fun _ hi => ⟨hi, rfl⟩) id (.of_eq rfl) .inl id (fun _ => ⟨rfl, rfl⟩) fun _ hx => ?_
    rw [State.modAccount_accounts, Table.read_update] at hx
    split at hx
    · cases hx
    · exact hx
  · exact hstored

/-- A host that is JOINED does as it likes with its own lease. -/
theorem leaves_renewed {g : HostId} {s : State} (f : Member → Member) (hf : ∀ x, (f x).state = x.state)
    (hg : s.isJoined g = true) : Leaves h s (s.modMember g f) := by
  refine ⟨modMember_isJoined s g hf h, fun hj ⟨a, b, c, d, e, v, n, l, lease, mark⟩ =>
    ⟨a, b, c, d, e, v, n, l, ?_, mark⟩⟩
  have hne : h ≠ g := fun he => by simp [he, hg] at hj
  rwa [State.modMember_members, Table.read_update, if_neg hne]

theorem leaves_renewLease (g : HostId) (s : State) : Leaves h s (renewLease g s) := by
  unfold renewLease
  split
  · next hg => exact leaves_renewed _ (fun _ => rfl) hg.1
  · exact .refl h s

/-- A subscription a JOINED host makes, or one that rests or is active again. -/
theorem leaves_modSub {s : State} {i : SubId} {f : Subscription → Subscription}
    (hf : s.isJoined h = false → (f (s.subs.read i)).owner ≠ h ∨
      (s.subs.read i).state ≠ .free ∧ (f (s.subs.read i)).owner = (s.subs.read i).owner) :
    Leaves h s (s.modSub i f) := by
  refine ⟨rfl, fun hj ⟨a, b, c, d, e, v, n, l, lease, mark⟩ => ⟨fun k hk => ?_, b, c, d, e, v, n, l, lease, mark⟩⟩
  rw [State.modSub_subs, Table.read_update] at hk ⊢
  split at hk
  · next hki =>
    rw [if_pos hki]
    obtain ho | ⟨hused, ho⟩ := hf hj
    · exact ho
    · exact ho ▸ a i hused
  · next hki =>
    rw [if_neg hki]
    exact a k hk

theorem not_joined_ne {s : State} {g : HostId} (hj : s.isJoined h = false) (hg : s.isJoined g = true) : g ≠ h :=
  fun he => by simp [he, hj] at hg

/-- Another host is admitted (R149). -/
theorem leaves_admitMember {g : HostId} (r : Request) (s : State) (hg : h ≠ g) : Leaves h s (admitMember g r s) := by
  refine .of_messages ?_ rfl rfl rfl (.of_eq rfl) rfl rfl (fun _ => ?_) ?_ <;>
    simp [admitMember, Table.read_update, hg]

end

/-- At reset no host has anything. -/
theorem absent_reset (h : HostId) : State.reset.Absent h where
  subs i hi := by simp [State.reset, Subscription.free] at hi
  queue := by simp [State.reset]
  filling m hm := by simp [State.reset, Message.vacant] at hm
  turn := by simp [State.reset, Turn.holder]
  claim := by simp [State.reset]
  vote := nofun
  notices := by simp [State.reset, Desk.ready]
  lost := by simp [State.reset, Desk.ready]
  lease := by simp [State.reset, Member.reset]
  mark := by simp [State.reset]

theorem absent_underReset (s : State) (h : HostId) : s.underReset.Absent h := by
  obtain ⟨a, b, c, d, e, v, n, l, lease, mark⟩ := absent_reset h
  exact ⟨a, b, c, d, e, v, n, l, lease, mark⟩

/-- A fetched notice leaves an empty queue empty (R172). -/
theorem leaves_commitFetchNotice {h : HostId} (g : HostId) (p : Commit) (s : State) :
    Leaves h s (commitFetchNotice g p s) := by
  unfold commitFetchNotice
  split
  · next reported lost =>
    refine ⟨rfl, fun _ ⟨a, b, c, d, e, v, n, l, lease, mark⟩ => ⟨a, b, c, d, e, v, ?_, ?_, lease, mark⟩⟩ <;>
      rw [State.modDesk_desks, Table.read_update] <;> split
    · next hg => subst hg; simp [n]
    · exact n
    · next hg => subst hg; simp [l]
    · exact l
  · exact .refl h s

theorem leaves_commitReadCounter {h : HostId} (g : HostId) (p : Commit) (s : State) :
    Leaves h s (commitReadCounter g p s) := by
  unfold commitReadCounter
  split
  · exact leaves_modCounters _ _ s
  · exact .refl h s

theorem leaves_linkFault {h : HostId} (g : HostId) (f : LinkFault) (b : Byte) (s : State) :
    Leaves h s (linkFault g f b s) := by
  have hlink : Leaves h s (s.modLink g fun l => { l with lastFault := f, faultSerial := b }) :=
    .of_messages rfl rfl rfl rfl (.of_eq rfl) rfl rfl (fun _ => ⟨rfl, rfl⟩) rfl
  exact (hlink.trans (leaves_modCounters _ _ _)).trans (leaves_latch _ _ _)

/-- Every effect keeps the law of the hosts that are not JOINED. -/
theorem departedLaw_effect {F : Prop} {c : Instr} {s t : State} (he : Effect F c s t) (hf : fillingLaw s)
    (hl : departedLaw s) : departedLaw t := by
  rw [departedLaw_iff] at hl ⊢
  intro h hj
  have of_leaves : Leaves h s t → t.Absent h := fun hk => by
    have hs := hk.joined ▸ hj
    exact hk.absent hs (hl h hs)
  cases he with
  | links hs => exact of_leaves (leaves_links hs)
  | posted g n => exact of_leaves (leaves_post g n s)
  | judged => exact of_leaves (leaves_judgeVote s)
  | @admitted g _ r =>
    refine of_leaves (leaves_admitMember r s fun hg => ?_)
    subst hg
    simp [admitMember_isJoined] at hj
  | @departed _ g _ final n _ hfinal =>
    by_cases hg : h = g
    · subst hg
      exact absent_teardown n hfinal hf
    · exact of_leaves (leaves_teardown final n s hg)
  | setLease b hg => exact of_leaves (leaves_renewed _ (by intro _; rfl) hg)
  | setMask => exact of_leaves (.modMember s _ (by intro _; exact ⟨rfl, rfl⟩))
  | setThreshold b => exact of_leaves (leaves_storeThreshold _ b s)
  | setParams => exact of_leaves (.of_messages rfl rfl rfl rfl (.of_eq rfl) rfl rfl (fun _ => ⟨rfl, rfl⟩) rfl)
  | reevaluated => exact of_leaves (leaves_reevaluate s)
  | @voted g _ hg =>
    have hne := not_joined_ne (h := h) (s := s) hj hg
    refine of_leaves ⟨rfl, fun _ ⟨a, b, c, d, e, v, n, l, lease, mark⟩ =>
      ⟨a, b, c, d, e, fun x hx => ?_, n, l, lease, mark⟩⟩
    cases hx
    unfold State.ballot
    split
    · next w hw => simp [hne.symm, v w hw]
    · simp [hne.symm]
  | acknowledged l => exact of_leaves (.modDesk s _ fun _ => ⟨rfl, rfl⟩)
  | renewed g => exact of_leaves (leaves_renewLease g s)
  | responded g p => exact of_leaves (leaves_respond g p s)
  | tookHead => exact of_leaves (leaves_answerTakeHead _ _ _ s)
  | committedTake => exact of_leaves ((leaves_closeTransaction _ s).trans (leaves_commitTake _ _ _))
  | committedNotice p => exact of_leaves (leaves_commitFetchNotice _ p s)
  | committedCounter p => exact of_leaves (leaves_commitReadCounter _ p s)
  | voided => exact of_leaves ((leaves_closeTransaction _ s).trans (leaves_voidRead _ _))
  | faulted f b => exact of_leaves (leaves_linkFault _ f b s)
  | openedChannel => exact of_leaves (leaves_modChannel _ _ s)
  | closedChannel => exact of_leaves (leaves_closeChannel _ s)
  | @subscribed g r c i p _ hg hc hi =>
    refine of_leaves ((leaves_modSub fun hs => .inl ?_).trans (leaves_modChannel _ _ _))
    exact not_joined_ne hs hg
  | unsubscribed => exact of_leaves ((leaves_removeEntries _ _ s).trans (leaves_freeSubscription _ _))
  | rested hi hx => exact of_leaves (leaves_modSub fun _ => .inr ⟨hi, rfl⟩)
  | arbitrated hg => exact of_leaves (leaves_arbitrate hg)
  | began hg =>
    refine of_leaves ((leaves_arbitrate hg).trans (leaves_startMessage _ _ _ ?_))
    exact (isJoined_of_members_eq (by simp) _).trans hg
  | put => exact of_leaves (leaves_appendBytes _ _ s)
  | @sealed g m =>
    exact of_leaves ((((leaves_sealMessage m s).trans (leaves_release m _)).trans (leaves_modCounters _ _ _)).trans
      (leaves_endTurnOf _ _))
  | aborted => exact of_leaves (leaves_abortMessage _ s)
  | skipped => exact of_leaves (leaves_removeEntry _ _ s)
  | turnEnded => exact of_leaves (leaves_endTurn s)
  | voteEnded => exact of_leaves (leaves_voteClosed s)
  | reset ht =>
    cases ht
    exact absent_underReset s h
  | released => exact of_leaves (.of_messages rfl rfl rfl rfl (.of_eq rfl) rfl rfl (fun _ => ⟨rfl, rfl⟩) rfl)
  | ticked => exact of_leaves (.of_messages rfl rfl rfl rfl (.of_eq rfl) rfl rfl (fun _ => ⟨rfl, rfl⟩) rfl)

/-- Settles O57: every effect of a step keeps the law of FILLING messages, and with it the law of the hosts that are not
JOINED. -/
theorem stepKeepsDeparted : Obligations.StepKeepsDeparted := by
  intro s t hf hl ht
  exact step_keeps (P := fun u => fillingLaw u ∧ departedLaw u) (fun _ _ hu => hu)
    (fun _ _ _ he hu => ⟨fillingLaw_effect he hu.1, departedLaw_effect he hu.1 hu.2⟩) ⟨hf, hl⟩ ht

end Sys2Proof.Machine
end

section
/-! SUPPORT. Sums over a table of records of which one has changed, and the storage of the messages (R1, R5 to R8): what
each shared operation does to the chains, the free list and the charges. -/

namespace Sys2Proof.Machine

/-! ## One record among others -/

section
variable {n : Nat}

theorem sum_exchange {f g : Fin n → Nat} {m : Fin n} (h : ∀ k, k ≠ m → g k = f k) :
    ∑ k, g k + f m = ∑ k, f k + g m := by
  rw [← Finset.add_sum_erase _ g (Finset.mem_univ m), ← Finset.add_sum_erase _ f (Finset.mem_univ m),
    Finset.sum_congr rfl fun k hk => h k (Finset.ne_of_mem_erase hk)]
  ac_rfl

theorem sum_filter_finRange (p : Fin n → Bool) (f : Fin n → Nat) :
    (((List.finRange n).filter p).map f).sum = ∑ k, if p k = true then f k else 0 := by
  rw [Fin.sum_univ_def]
  induction List.finRange n with
  | nil => rfl
  | cons a l ih =>
    cases hp : p a <;> simp [hp, ih]

theorem flatMap_perm_erase {α : Type} (f : Fin n → List α) (m : Fin n) :
    ((List.finRange n).flatMap f).Perm (f m ++ ((List.finRange n).erase m).flatMap f) :=
  (List.perm_cons_erase (List.mem_finRange m)).flatMap_right f

theorem mem_finRange_erase {m k : Fin n} : k ∈ (List.finRange n).erase m ↔ k ≠ m := by
  rw [(List.nodup_finRange n).mem_erase_iff]
  simp

theorem flatMap_filter_of_nil {α : Type} (p : Fin n → Bool) (f : Fin n → List α) (l : List (Fin n))
    (h : ∀ k ∈ l, p k = false → f k = []) : (l.filter p).flatMap f = l.flatMap f := by
  induction l with
  | nil => rfl
  | cons a l ih =>
    have hl := ih fun k hk => h k (.tail a hk)
    cases hp : p a
    · simp [hp, hl, h a List.mem_cons_self hp]
    · simp [hp, hl]

end

/-! ## Walks along a chain (R5) -/

/-- A list of cells is met from a head by following next cell. -/
def Walks (cells : Table CellRec 512) : Option CellId → List CellId → Prop
  | _, [] => True
  | hd, c :: l => hd = some c ∧ Walks cells (cells.read c).next l

theorem walks_walk (cells : Table CellRec 512) (n : Nat) (hd : Option CellId) : Walks cells hd (walk cells n hd) := by
  induction n generalizing hd with
  | zero => trivial
  | succ n ih =>
    cases hd with
    | none => trivial
    | some c => exact ⟨rfl, ih _⟩

theorem walk_of_walks {cells : Table CellRec 512} {hd : Option CellId} {l : List CellId} (h : Walks cells hd l) :
    walk cells l.length hd = l := by
  induction l generalizing hd with
  | nil => rfl
  | cons c l ih =>
    obtain ⟨rfl, hl⟩ := h
    rw [List.length_cons, walk, ih hl]

/-- A chain continued by one cell (R3): its last cell leads on to the new one, which is the head of an empty chain. -/
theorem walks_concat {cells cells' : Table CellRec 512} {c : CellId} {hd : Option CellId} {l : List CellId}
    (h : Walks cells hd l) (hh : l.head? = hd) (hsame : ∀ x ∈ l.dropLast, (cells'.read x).next = (cells.read x).next)
    (hlast : ∀ x ∈ l.getLast?, (cells'.read x).next = some c) : Walks cells' (some (hd.getD c)) (l ++ [c]) := by
  induction l generalizing hd with
  | nil =>
    subst hh
    exact ⟨rfl, trivial⟩
  | cons a l ih =>
    obtain ⟨rfl, hl⟩ := h
    refine ⟨rfl, ?_⟩
    cases l with
    | nil =>
      rw [hlast a rfl]
      exact ⟨rfl, trivial⟩
    | cons b l =>
      have hb : (cells.read a).next = some b := hl.1
      have hn := ih hl hb.symm (fun x hx => hsame x (.tail a hx)) fun x hx => hlast x (by simpa using hx)
      rw [hsame a (by simp), hb]
      rwa [hb] at hn

/-! ## The law of storage, record by record -/

/-- What a live message's chain is (R5, R6, R13): as many cells as its length needs, from its head to its tail, full but
for the last. -/
structure Message.Fits (x : Message) (cells : Table CellRec 512) (chain : List CellId) : Prop where
  bound : x.length ≤ Config.maxMessage
  count : x.cellCount = cellsFor x.length
  length : chain.length = x.cellCount
  head : chain.head? = x.head
  tail : chain.getLast? = x.tail
  full : ∀ c ∈ chain.dropLast, (cells.read c).used = Config.cellBytes
  last : ∀ c ∈ chain.getLast?, cells.read c = { next := none, used := tailUsed x.length }

/-- The cells that count for a publisher in a message (R8). -/
def Message.cellsBy (x : Message) (h : HostId) : Nat := if x.publisher = h then x.cellCount else 0

theorem Message.vacant_cellsBy (h : HostId) : Message.vacant.cellsBy h = 0 := ite_self 0

/-- The law of storage, but for the framers. -/
structure State.Stored (s : State) : Prop where
  cover : (s.freeList ++ (List.finRange 128).flatMap s.chainOf).Perm (List.finRange 512)
  charges : ∀ h, (s.accounts.read h).charge = ∑ m, (s.messages.read m).cellsBy h
  blank : ∀ c ∈ s.freeList, s.cells.read c = CellRec.free
  vacant : ∀ m, (s.messages.read m).state = .vacant → (s.messages.read m).cellCount = 0
  fits : ∀ m, (s.messages.read m).isLive → (s.messages.read m).Fits s.cells (s.chainOf m)

theorem Message.isLive_eq_false_iff (x : Message) : x.isLive = false ↔ x.state = .vacant := by
  simp [Message.isLive]

theorem Message.isLive_iff (x : Message) : x.isLive = true ↔ x.state ≠ .vacant := by
  simp [Message.isLive]

theorem chainOf_nil {s : State} {m : MsgId} (h : (s.messages.read m).cellCount = 0) : s.chainOf m = [] := by
  rw [State.chainOf, h, walk]

theorem storageLaw_iff (s : State) : storageLaw s ↔ s.Stored ∧ linkLaw s := by
  have hheld (hv : ∀ m, (s.messages.read m).state = .vacant → (s.messages.read m).cellCount = 0) :
      s.heldCells = (List.finRange 128).flatMap s.chainOf :=
    flatMap_filter_of_nil _ _ _ fun m _ hm => chainOf_nil (hv m ((Message.isLive_eq_false_iff _).1 hm))
  have hcharge (hv : ∀ m, (s.messages.read m).state = .vacant → (s.messages.read m).cellCount = 0) (h : HostId) :
      s.cellsOf h = ∑ m, (s.messages.read m).cellsBy h := by
    unfold State.cellsOf Table.indices
    rw [sum_filter_finRange]
    refine Finset.sum_congr rfl fun m _ => ?_
    unfold Message.cellsBy
    cases hm : (s.messages.read m).isLive
    · simp [hm, hv m ((Message.isLive_eq_false_iff _).1 hm)]
    · simp [hm]
  constructor
  · rintro ⟨hcover, hcharges, hblank, hvacant, hfits, hlink⟩
    refine ⟨⟨hheld hvacant ▸ hcover, fun h => (hcharges h).trans (hcharge hvacant h), hblank, hvacant, fun m hm => ?_⟩,
      hlink⟩
    obtain ⟨a, b, c, d, e, f, g⟩ := hfits m hm
    exact ⟨a, b, c, d, e, f, g⟩
  · rintro ⟨hs, hlink⟩
    refine ⟨by rw [firstLaw, hheld hs.vacant]; exact hs.cover, fun h => (hs.charges h).trans (hcharge hs.vacant h).symm,
      hs.blank, hs.vacant, fun m hm => ?_, hlink⟩
    obtain ⟨a, b, c, d, e, f, g⟩ := hs.fits m hm
    exact ⟨a, b, c, d, e, f, g⟩

namespace State.Stored

variable {s t : State}

/-! ## What the cover says of two chains -/

theorem nodup (hs : s.Stored) : (s.freeList ++ (List.finRange 128).flatMap s.chainOf).Nodup :=
  hs.cover.nodup_iff.2 (List.nodup_finRange 512)

theorem chain_nodup (hs : s.Stored) (m : MsgId) : (s.chainOf m).Nodup :=
  ((flatMap_perm_erase s.chainOf m).nodup_iff.1 (List.nodup_append.1 hs.nodup).2.1).of_append_left

theorem free_disjoint (hs : s.Stored) {c : CellId} (hc : c ∈ s.freeList) (m : MsgId) : c ∉ s.chainOf m := fun hm =>
  (List.nodup_append.1 hs.nodup).2.2 c hc c (List.mem_flatMap.2 ⟨m, List.mem_finRange m, hm⟩) rfl

theorem chain_disjoint (hs : s.Stored) {m k : MsgId} (hk : k ≠ m) {c : CellId} (hc : c ∈ s.chainOf k) :
    c ∉ s.chainOf m := fun hm =>
  (List.nodup_append.1 ((flatMap_perm_erase s.chainOf m).nodup_iff.1 (List.nodup_append.1 hs.nodup).2.1)).2.2 c hm c
    (List.mem_flatMap.2 ⟨k, mem_finRange_erase.2 hk, hc⟩) rfl

theorem cellCount_le_charge (hs : s.Stored) (m : MsgId) :
    (s.messages.read m).cellCount ≤ (s.accounts.read (s.messages.read m).publisher).charge := by
  rw [hs.charges]
  calc (s.messages.read m).cellCount = (s.messages.read m).cellsBy (s.messages.read m).publisher := by
        rw [Message.cellsBy, if_pos rfl]
    _ ≤ _ := Finset.single_le_sum (f := fun k => (s.messages.read k).cellsBy (s.messages.read m).publisher)
        (fun _ _ => Nat.zero_le _) (Finset.mem_univ m)

/-! ## Changes -/

theorem congr (hs : s.Stored) (hm : t.messages = s.messages) (hc : t.cells = s.cells) (hf : t.freeList = s.freeList)
    (ha : ∀ h, (t.accounts.read h).charge = (s.accounts.read h).charge) : t.Stored := by
  have hchain : t.chainOf = s.chainOf := by
    funext m
    rw [State.chainOf, hm, hc, State.chainOf]
  exact ⟨by rw [hf, hchain]; exact hs.cover, fun h => by rw [ha, hm]; exact hs.charges h, by rw [hf, hc]; exact hs.blank,
    by rw [hm]; exact hs.vacant, by rw [hm, hc, hchain]; exact hs.fits⟩

/-- One message, its cells and the charges changed: the other chains stand. -/
theorem of_message {m : MsgId} (hs : s.Stored) (hm : ∀ k, k ≠ m → t.messages.read k = s.messages.read k)
    (hc : ∀ k, k ≠ m → ∀ c ∈ s.chainOf k, t.cells.read c = s.cells.read c)
    (hcover : (t.freeList ++ t.chainOf m).Perm (s.freeList ++ s.chainOf m))
    (hcharge : ∀ h, (t.accounts.read h).charge + (s.messages.read m).cellsBy h =
      (s.accounts.read h).charge + (t.messages.read m).cellsBy h)
    (hblank : ∀ c ∈ t.freeList, t.cells.read c = CellRec.free)
    (hvacant : (t.messages.read m).state = .vacant → (t.messages.read m).cellCount = 0)
    (hfits : (t.messages.read m).isLive → (t.messages.read m).Fits t.cells (t.chainOf m)) : t.Stored := by
  have hchain : ∀ k, k ≠ m → t.chainOf k = s.chainOf k := fun k hk => by
    rw [State.chainOf, hm k hk]
    exact walk_congr fun c hcm => by rw [hc k hk c hcm]
  refine ⟨?_, fun h => ?_, hblank, fun k hk => ?_, fun k hk => ?_⟩
  · have hrest : ((List.finRange 128).erase m).flatMap t.chainOf = ((List.finRange 128).erase m).flatMap s.chainOf :=
      List.flatMap_congr fun k hk => hchain k (mem_finRange_erase.1 hk)
    refine List.Perm.trans ?_ hs.cover
    refine ((flatMap_perm_erase t.chainOf m).append_left _).trans
      (.trans ?_ ((flatMap_perm_erase s.chainOf m).append_left _).symm)
    rw [hrest, ← List.append_assoc, ← List.append_assoc]
    exact hcover.append_right _
  · have hsum := sum_exchange (m := m) (f := fun k => (s.messages.read k).cellsBy h)
      (g := fun k => (t.messages.read k).cellsBy h) fun k hk => by rw [hm k hk]
    have hold := hs.charges h
    have hnew := hcharge h
    omega
  · by_cases hkm : k = m
    · exact hkm ▸ hvacant (hkm ▸ hk)
    · rw [hm k hkm] at hk ⊢
      exact hs.vacant k hk
  · by_cases hkm : k = m
    · exact hkm ▸ hfits (hkm ▸ hk)
    · rw [hm k hkm] at hk ⊢
      rw [hchain k hkm]
      obtain ⟨a, b, c, d, e, f, g⟩ := hs.fits k hk
      exact ⟨a, b, c, d, e, fun x hx => by rw [hc k hkm x (List.dropLast_subset _ hx)]; exact f x hx,
        fun x hx => by rw [hc k hkm x (List.mem_of_mem_getLast? hx)]; exact g x hx⟩

/-- One record rewritten with the chain it had. -/
theorem record {m : MsgId} {x : Message} (hs : s.Stored) (hm : t.messages = s.messages.write m x)
    (hx : (x.state = .vacant ↔ (s.messages.read m).state = .vacant) ∧ x.publisher = (s.messages.read m).publisher
      ∧ x.length = (s.messages.read m).length ∧ x.head = (s.messages.read m).head ∧ x.tail = (s.messages.read m).tail
      ∧ x.cellCount = (s.messages.read m).cellCount)
    (hc : t.cells = s.cells) (hf : t.freeList = s.freeList)
    (ha : ∀ h, (t.accounts.read h).charge = (s.accounts.read h).charge) : t.Stored := by
  obtain ⟨hvacant, hpub, hlength, hhead, htail, hcount⟩ := hx
  have hread : t.messages.read m = x := by rw [hm, Table.read_write_self]
  have hchain : t.chainOf m = s.chainOf m := by rw [State.chainOf, hread, hc, hhead, hcount, State.chainOf]
  refine hs.of_message (m := m) (fun k hk => by rw [hm, Table.read_write_ne _ _ hk]) (fun _ _ _ _ => by rw [hc])
    (by rw [hf, hchain]) (fun h => by rw [ha, hread, Message.cellsBy, Message.cellsBy, hpub, hcount])
    (by rw [hf, hc]; exact hs.blank) (fun hv => ?_) fun hl => ?_
  · rw [hread] at hv ⊢
    exact hcount.trans (hs.vacant m (hvacant.1 hv))
  · rw [hread] at hl
    obtain ⟨a, b, c, d, e, f, g⟩ :=
      hs.fits m ((Message.isLive_iff _).2 (mt hvacant.2 ((Message.isLive_iff x).1 hl)))
    rw [hread, hchain, hc]
    exact ⟨hlength ▸ a, by rw [hcount, hlength]; exact b, by rw [hcount]; exact c, by rw [hhead]; exact d,
      by rw [htail]; exact e, f, by rw [hlength]; exact g⟩

end State.Stored

section
variable {s t : State}

/-! ## Messages -/

/-- A message's cells return to the free list (R4, R8, R19). -/
theorem stored_freeMessage (hs : s.Stored) (m : MsgId) : (freeMessage m s).Stored := by
  have hf := freed_freeMessage m s
  have hread : (freeMessage m s).messages.read m = Message.vacant := by rw [hf.messages, Table.read_write_self]
  refine hs.of_message (m := m) (fun k hk => by rw [hf.messages, Table.read_write_ne _ _ hk]) (fun k hk c hc => ?_) ?_
    (fun h => ?_) (fun c hc => ?_) (fun _ => by rw [hread]; rfl) fun hl => ?_
  · rw [hf.cells, if_neg (hs.chain_disjoint hk hc)]
  · rw [hf.freeList, chainOf_nil (s := freeMessage m s) (m := m) (by rw [hread]; rfl), List.append_nil]
  · have hle := hs.cellCount_le_charge m
    rw [hf.charge, hread, Message.vacant_cellsBy, Message.cellsBy]
    by_cases hp : h = (s.messages.read m).publisher
    · subst hp
      simp [Nat.sub_add_cancel hle]
    · simp [hp, Ne.symm hp]
  · rw [hf.freeList, List.mem_append] at hc
    rw [hf.cells]
    split
    · rfl
    · next hn => exact hs.blank c (hc.resolve_right hn)
  · rw [hread] at hl
    cases hl

theorem stored_release (hs : s.Stored) (m : MsgId) : (release m s).Stored := by
  have hcount : State.Stored
      { s with messages := s.messages.write m ({ s.messages.read m with refCount := (s.messages.read m).refCount - 1 }) } :=
    hs.record (m := m) rfl ⟨Iff.rfl, rfl, rfl, rfl, rfl, rfl⟩ rfl rfl fun _ => rfl
  rw [release_eq]
  split
  · exact stored_freeMessage hcount m
  · exact hcount

/-- A live message marked ABORTED or SEALED keeps its chain. -/
theorem stored_marked {m : MsgId} {x : MsgState} (hs : s.Stored) (hm : (s.messages.read m).isLive) (hx : x ≠ .vacant) :
    State.Stored { s with messages := s.messages.write m ({ s.messages.read m with state := x }) } :=
  hs.record (m := m) rfl ⟨by simp [hx, (Message.isLive_iff _).1 hm], rfl, rfl, rfl, rfl, rfl⟩ rfl rfl fun _ => rfl

theorem stored_endTurnOf (hs : s.Stored) (h : HostId) : (endTurnOf h s).Stored :=
  hs.congr (by simp) (by simp) (by simp) (by simp)

theorem stored_abortMessage (hs : s.Stored) {m : MsgId} (hm : (s.messages.read m).isLive) : (abortMessage m s).Stored := by
  have hmarked : (s.markAborted m).Stored := by
    refine stored_marked hs hm ?_
    split
    · nofun
    · exact (Message.isLive_iff _).1 hm
  rw [abortMessage_eq]
  exact stored_endTurnOf ((stored_release hmarked m).congr (by simp) (by simp) (by simp) (by simp)) _

/-! ## Entries and subscriptions -/

theorem stored_removeEntry (hs : s.Stored) (h : HostId) (e : EntryId) : (removeEntry h e s).Stored := by
  rw [removeEntry_eq]
  exact stored_release (hs.congr (t := s.unqueued h e) rfl rfl rfl fun _ => rfl) _

theorem stored_removeEntries (hs : s.Stored) (h : HostId) (es : List EntryId) : (removeEntries h es s).Stored :=
  foldl_invariant (P := State.Stored) (fun _ e hu => stored_removeEntry hu h e) es hs

theorem stored_freeSubscription (hs : s.Stored) (i : SubId) : (freeSubscription i s).Stored := hs.congr rfl rfl rfl fun _ => rfl

theorem stored_post (hs : s.Stored) (h : HostId) (n : Notice) : (post h n s).Stored :=
  hs.congr (by simp) (by simp) (by simp) (by simp)

theorem stored_appendEntry (hs : s.Stored) (h : HostId) (m : MsgId) (i : SubId) (e : EntryId) :
    (appendEntry h m i e s).Stored := by
  rw [appendEntry_eq]
  exact hs.record (m := m) rfl ⟨Iff.rfl, rfl, rfl, rfl, rfl, rfl⟩ rfl rfl fun _ => rfl

theorem stored_reportDrop (hs : s.Stored) (h : HostId) (n : Notice) : (reportDrop h n s).Stored :=
  hs.congr (by simp) (by simp) (by simp) (by simp)

theorem stored_deliver (hs : s.Stored) (m : MsgId) (h : HostId) (i : SubId) : (deliver m h i s).Stored := by
  obtain ⟨-, e, -, ho⟩ | ⟨n, ho⟩ | ⟨-, -, e, -, ho⟩ := deliver_cases m h i s <;> rw [ho]
  · exact stored_appendEntry hs h m i e
  · exact stored_reportDrop hs h n
  · exact stored_appendEntry (stored_reportDrop (stored_removeEntry hs h e) h _) h m i e

theorem stored_createDeliveries (hs : s.Stored) (m : MsgId) : (createDeliveries m s).Stored :=
  foldl_invariant (P := State.Stored) (fun _ p hu => stored_deliver hu m p.1 p.2) _ hs

theorem stored_sealMessage (hs : s.Stored) {m : MsgId} (hm : (s.messages.read m).isLive) : (sealMessage m s).Stored := by
  have hmarked : (s.modMessage m fun x => { x with state := .sealed }).Stored := stored_marked hs hm (by decide)
  unfold sealMessage
  dsimp only
  split
  · exact stored_createDeliveries hmarked m
  · exact hmarked

/-! ## Closes and teardowns -/

/-- Messages aborted one after another, each FILLING until its turn (R35). -/
theorem stored_foldl_closeAbort {l : List MsgId} (hl : l.Nodup) (hs : s.Stored)
    (hf : ∀ m ∈ l, (s.messages.read m).isLive) : (l.foldl (fun s m => closeAbort m s) s).Stored := by
  induction l generalizing s with
  | nil => exact hs
  | cons m l ih =>
    obtain ⟨hm, hnodup⟩ := List.nodup_cons.1 hl
    refine ih hnodup (stored_post (stored_abortMessage hs (hf m List.mem_cons_self)) _ _) fun k hk => ?_
    have hne : k ≠ m := fun he => hm (he ▸ hk)
    have hsame : (closeAbort m s).messages.read k = s.messages.read k := by
      simp only [closeAbort, post_frame, abortMessage_others s hne]
    rw [hsame]
    exact hf k (.tail m hk)

theorem stored_closeChannel (hs : s.Stored) (c : ChanId) : (closeChannel c s).Stored := by
  have haborts : (closeAborts c s).Stored := by
    refine stored_foldl_closeAbort ((List.nodup_finRange 128).filter _) hs fun m hm => ?_
    simp only [Table.mem_indices, Bool.and_eq_true, beq_iff_eq] at hm
    simp [Message.isLive, hm.1]
  have hsubs : (closeSubscriptions c (closeAborts c s)).Stored :=
    foldl_invariant (P := State.Stored) (fun _ i hu => stored_post (stored_freeSubscription hu i) _ _) _ haborts
  exact hsubs.congr rfl rfl rfl fun _ => rfl

theorem fillingOf_isLive {h : HostId} {m : MsgId} (hm : s.fillingOf h = some m) : (s.messages.read m).isLive := by
  simp [Message.isLive, (fillingOf_some hm).1]

theorem stored_silenced (hs : s.Stored) (h : HostId) : (s.silenced h).Stored := by
  have hfree : (freeSubscriptionsOf h s).Stored :=
    foldl_invariant (P := State.Stored) (fun _ i hu => stored_freeSubscription hu i) _ hs
  have hqueue : (s.unsubscribed h).Stored := stored_removeEntries hfree h _
  have habort : (abortFillingOf h (s.unsubscribed h)).Stored := by
    unfold abortFillingOf
    split
    · next m hm => exact stored_abortMessage hqueue (fillingOf_isLive hm)
    · exact hqueue
  exact habort.congr (by simp [State.silenced]) (by simp [State.silenced]) (by simp [State.silenced])
    (by simp [State.silenced])

theorem stored_dismantle (hs : s.Stored) (h : HostId) (final : Membership) : (dismantle h final s).Stored := by
  rw [dismantle_eq]
  refine (stored_silenced hs h).congr rfl rfl rfl fun g => ?_
  dsimp only
  rw [Table.read_write]
  split
  · next hg => rw [hg]
  · rfl

/-- The empty tables store nothing. -/
theorem stored_of_empty (hm : ∀ m, s.messages.read m = Message.vacant) (hc : ∀ c, s.cells.read c = CellRec.free)
    (hf : s.freeList = List.finRange 512) (ha : ∀ h, (s.accounts.read h).charge = 0) : s.Stored := by
  have hchain : ∀ m, s.chainOf m = [] := fun m => chainOf_nil (by rw [hm]; rfl)
  refine ⟨?_, fun h => ?_, fun c _ => hc c, fun m _ => by rw [hm]; rfl, fun m hl => ?_⟩
  · rw [hf, List.flatMap_eq_nil_iff.2 fun m _ => hchain m, List.append_nil]
  · rw [ha, Finset.sum_eq_zero fun m _ => by rw [hm, Message.vacant_cellsBy]]
  · rw [hm] at hl
    cases hl

theorem stored_of_cleared (hc : Cleared s t) : t.Stored :=
  stored_of_empty hc.tables.1 hc.pool.1 hc.pool.2 fun h => by rw [hc.accounts h]

theorem stored_judgeVote (hs : s.Stored) : (judgeVote s).Stored := by
  unfold judgeVote
  split
  · exact hs
  split
  · exact hs.congr (by simp) (by simp) (by simp) (by simp)
  split
  · exact stored_of_cleared (cleared_exchangeClear _)
  · exact hs

theorem stored_teardown (hs : s.Stored) (h : HostId) (final : Membership) (n : Notice) :
    (teardown h final n s).Stored := by
  have hjudged : (withdrawVote h (dismantle h final s)).Stored := by
    unfold withdrawVote
    refine stored_judgeVote ?_
    generalize hu : dismantle h final s = u
    have hstored : u.Stored := hu ▸ stored_dismantle hs h final
    exact hstored.congr rfl rfl rfl fun _ => rfl
  rw [teardown_eq]
  exact hjudged.congr (by simp) (by simp) (by simp) (by simp)

/-! ## BEGIN -/

/-- A message begins without a cell (R64). -/
theorem stored_startMessage (hs : s.Stored) {h : HostId} (r : Request) {i : ChanId} {m : MsgId}
    (hm : (s.messages.read m).state = .vacant) : (startMessage h r i m s).Stored := by
  have hmade : ((s.modMessage m fun _ => newMessage h r i (s.channels.read i)).modChannel i fun y =>
      { y with nextSequence := y.nextSequence + 1, liveCount := y.liveCount + 1 }).Stored := by
    have hread : ((s.modMessage m fun _ => newMessage h r i (s.channels.read i)).modChannel i fun y =>
        { y with nextSequence := y.nextSequence + 1, liveCount := y.liveCount + 1 }).messages.read m =
          newMessage h r i (s.channels.read i) := Table.read_update_self _ _ _
    have hcount := hs.vacant m hm
    refine hs.of_message (m := m) (fun k hk => Table.read_update_ne _ _ hk) (fun _ _ _ _ => rfl) ?_ (fun g => ?_)
      hs.blank (fun _ => by rw [hread]; rfl) fun _ => ?_
    · rw [chainOf_nil hcount, chainOf_nil (by rw [hread]; rfl)]
      exact .refl _
    · rw [hread, Message.cellsBy, hcount, ite_self, Message.cellsBy]
      exact (congrArg _ (ite_self _)).symm
    · rw [hread, chainOf_nil (by rw [hread]; rfl)]
      exact ⟨Nat.zero_le _, by simp [newMessage, Message.vacant, cellsFor_eq], rfl, rfl, rfl, nofun, nofun⟩
  unfold startMessage
  dsimp only
  split
  · exact stored_createDeliveries hmade m
  · exact hmade

end

end Sys2Proof.Machine
end

section
/-! SUPPORT. The append of a PUT and the storage of the messages (R6, R69): the chain it leaves, and the law of storage
over every effect and every step. -/

namespace Sys2Proof.Machine

/-! ## The two appends: into the tail cell, or with one cell more -/

theorem fillTail_read (cells : Table CellRec 512) (n : Nat) (tail : Option CellId) (y : CellId) :
    (fillTail cells n tail).read y =
      if tail = some y then { cells.read y with used := tailUsed n } else cells.read y := by
  cases tail with
  | none => rfl
  | some c =>
    simp only [fillTail, Table.read_update, Option.some.injEq, eq_comm (a := c)]
    split
    · next hy => rw [hy]
    · rfl

theorem linkBehind_read (cells : Table CellRec 512) (c : CellId) (tail : Option CellId) (y : CellId) :
    (linkBehind cells c tail).read y = if tail = some y then { next := some c, used := 64 } else cells.read y := by
  cases tail with
  | none => rfl
  | some o => simp only [linkBehind, Table.read_write, Option.some.injEq, eq_comm (a := o)]

/-- An append that fits the tail cell. -/
theorem appendBytes_within {m : MsgId} {bytes : List Byte} {s : State}
    (hn : newCells (s.messages.read m).length bytes.length = 0) :
    let x := s.messages.read m
    appendBytes m bytes s =
      { s with
        pool := storeBytes (s.chainOf m) x.length bytes s.pool
        cells := fillTail s.cells (x.length + bytes.length) x.tail
        messages := s.messages.write m { x with length := x.length + bytes.length } } := by
  intro x
  rw [appendBytes_eq, hn, chargeCells_zero]
  rfl

/-- The chain of a message once the cell `c` has come to it. -/
def State.grownChain (s : State) (m : MsgId) (c : CellId) : List CellId :=
  walk (linkBehind s.cells c (s.messages.read m).tail) ((s.messages.read m).cellCount + 1)
    (some ((s.messages.read m).head.getD c))

/-- An append that takes the cell at the head of the free list. -/
theorem appendBytes_beyond {m : MsgId} {bytes : List Byte} {s : State} {c : CellId} {rest : List CellId}
    (hf : s.freeList = c :: rest) (hn : newCells (s.messages.read m).length bytes.length = 1) :
    let x := s.messages.read m
    appendBytes m bytes s =
      { s.charged m with
        pool := storeBytes (s.grownChain m c) x.length bytes s.pool
        cells := fillTail (linkBehind s.cells c x.tail) (x.length + bytes.length) (some c)
        messages := s.messages.write m { x.grown c with length := x.length + bytes.length } } := by
  intro x
  rw [appendBytes_eq, hn, chargeCells_one hf]
  dsimp only
  rw [Table.read_write_self, Table.update, Table.read_write_self, Table.write_write, (charged_frame s m).2.2.2]
  congr 1
  rw [State.chainOf, Table.read_write_self]
  rfl

theorem fillTail_next (cells : Table CellRec 512) (n : Nat) (tail : Option CellId) (y : CellId) :
    ((fillTail cells n tail).read y).next = (cells.read y).next := by
  rw [fillTail_read]
  split <;> rfl

theorem walk_fillTail (cells : Table CellRec 512) (n : Nat) (tail : Option CellId) (k : Nat) (hd : Option CellId) :
    walk (fillTail cells n tail) k hd = walk cells k hd := walk_congr fun y _ => fillTail_next cells n tail y

theorem ne_of_mem_dropLast {α : Type} {l : List α} {x y : α} (hl : l.Nodup) (hx : x ∈ l.dropLast) (hy : y ∈ l.getLast?) :
    x ≠ y := by
  rw [← List.dropLast_append_getLast? y hy] at hl
  exact (List.nodup_append.1 hl).2.2 x hx y (by simp)

theorem mem_dropLast_or_getLast? {α : Type} {l : List α} {x : α} (hx : x ∈ l) : x ∈ l.dropLast ∨ x ∈ l.getLast? := by
  cases hl : l.getLast? with
  | none =>
    rw [List.getLast?_eq_none_iff.1 hl] at hx
    cases hx
  | some y =>
    rw [← List.dropLast_append_getLast? y hl, List.mem_append, List.mem_singleton] at hx
    exact hx.imp id fun he => by rw [he]; rfl

section
variable {s : State} {m : MsgId} {c : CellId} {rest : List CellId}

/-- The chain goes on with the cell taken. -/
theorem grownChain_eq (hs : s.Stored) (hm : (s.messages.read m).isLive) (hf : s.freeList = c :: rest) :
    s.grownChain m c = s.chainOf m ++ [c] := by
  obtain ⟨-, -, hlength, hhead, htail, -, -⟩ := hs.fits m hm
  have hne : ∀ y ∈ s.chainOf m, y ≠ c := fun y hy he => hs.free_disjoint (c := c) (by simp [hf]) m (he ▸ hy)
  have hwalks : Walks (linkBehind s.cells c (s.messages.read m).tail) (some ((s.messages.read m).head.getD c))
      (s.chainOf m ++ [c]) := by
    refine walks_concat (walks_walk s.cells _ _) hhead (fun y hy => ?_) fun y hy => ?_
    · rw [linkBehind_read, if_neg]
      exact fun ht => ne_of_mem_dropLast (hs.chain_nodup m) hy (htail.trans ht) rfl
    · rw [linkBehind_read, if_pos (htail.symm.trans hy)]
  have hwalk := walk_of_walks hwalks
  rwa [List.length_append, hlength, List.length_singleton] at hwalk

/-- What fills the tail cell alone keeps the storage whole. -/
theorem stored_appendBytes_within {bytes : List Byte} (hs : s.Stored) (hm : (s.messages.read m).isLive)
    (hbound : (s.messages.read m).length + bytes.length ≤ Config.maxMessage) (hpos : 1 ≤ bytes.length)
    (hn : newCells (s.messages.read m).length bytes.length = 0) : (appendBytes m bytes s).Stored := by
  obtain ⟨-, hcells, hlength, hhead, htail, hfull, hlast⟩ := hs.fits m hm
  have hadd := cellsFor_add (s.messages.read m).length bytes.length
  have hwalk (n : Nat) : walk (fillTail s.cells n (s.messages.read m).tail) (s.messages.read m).cellCount
      (s.messages.read m).head = s.chainOf m := walk_fillTail _ _ _ _ _
  obtain ⟨o, ho⟩ : ∃ o, (s.chainOf m).getLast? = some o := by
    cases ho : (s.chainOf m).getLast? with
    | some o => exact ⟨o, rfl⟩
    | none =>
      rw [List.getLast?_eq_none_iff] at ho
      simp only [ho, List.length_nil, cellsFor_eq] at hlength hcells hadd
      omega
  have htailo : (s.messages.read m).tail = some o := htail.symm.trans ho
  have hmem : o ∈ s.chainOf m := List.mem_of_mem_getLast? ho
  have hout : ∀ y, y ≠ o → (fillTail s.cells ((s.messages.read m).length + bytes.length) (s.messages.read m).tail).read y =
      s.cells.read y := fun y hy => by rw [fillTail_read, htailo, if_neg fun he => hy (Option.some.inj he).symm]
  rw [appendBytes_within hn]
  refine hs.of_message (m := m) (fun k hk => Table.read_write_ne _ _ hk) (fun k hk y hy => hout y ?_) ?_ (fun h => ?_)
    (fun y hy => (hout y ?_).trans (hs.blank y hy)) (fun hv => ?_) fun _ => ?_
  · exact fun he => hs.chain_disjoint hk hy (he ▸ hmem)
  · simp only [State.chainOf, Table.read_write_self]
    rw [hwalk]
    exact .refl _
  · simp only [Table.read_write_self]
    rfl
  · exact fun he => hs.free_disjoint hy m (he ▸ hmem)
  · simp only [Table.read_write_self] at hv ⊢
    exact hs.vacant m hv
  · simp only [State.chainOf, Table.read_write_self]
    rw [hwalk]
    refine ⟨hbound, hcells.trans (by dsimp only; omega), hlength, hhead, htail, fun y hy => ?_, fun y hy => ?_⟩
    · rw [hout y (ne_of_mem_dropLast (hs.chain_nodup m) hy ho)]
      exact hfull y hy
    · obtain rfl := Option.some.inj (ho.symm.trans hy)
      rw [fillTail_read, if_pos htailo, hlast o ho]

theorem charged_charge (s : State) (m : MsgId) (h : HostId) : ((s.charged m).accounts.read h).charge =
    (s.accounts.read h).charge + if (s.messages.read m).publisher = h then 1 else 0 := by
  simp only [State.charged, reevaluate_frame]
  split
  · next hp => rw [← hp]; exact (setCharge_account _ _ _).2
  · next hp => rw [(setCharge_others _ _ (Ne.symm hp)).1, Nat.add_zero]

/-- What takes one cell more keeps the storage whole. -/
theorem stored_appendBytes_beyond {bytes : List Byte} (hs : s.Stored) (hm : (s.messages.read m).isLive)
    (hbound : (s.messages.read m).length + bytes.length ≤ Config.maxMessage) (hf : s.freeList = c :: rest)
    (hn : newCells (s.messages.read m).length bytes.length = 1) : (appendBytes m bytes s).Stored := by
  obtain ⟨-, hcells, hlength, hhead, htail, hfull, hlast⟩ := hs.fits m hm
  have hadd := cellsFor_add (s.messages.read m).length bytes.length
  have hcfree : c ∈ s.freeList := by simp [hf]
  have hgrown := grownChain_eq hs hm hf
  have hwalk (n : Nat) : walk (fillTail (linkBehind s.cells c (s.messages.read m).tail) n (some c))
      ((s.messages.read m).grown c).cellCount ((s.messages.read m).grown c).head = s.chainOf m ++ [c] :=
    (walk_fillTail _ _ _ _ _).trans hgrown
  have hout : ∀ y, y ≠ c → some y ≠ (s.messages.read m).tail →
      (fillTail (linkBehind s.cells c (s.messages.read m).tail) ((s.messages.read m).length + bytes.length)
        (some c)).read y = s.cells.read y := fun y hy ht => by
    rw [fillTail_read, if_neg fun he => hy (Option.some.inj he).symm, linkBehind_read, if_neg fun he => ht he.symm]
  have htailmem : ∀ y, some y = (s.messages.read m).tail → y ∈ s.chainOf m := fun y hy =>
    List.mem_of_mem_getLast? (htail.trans hy.symm)
  rw [appendBytes_beyond hf hn]
  refine hs.of_message (m := m) (fun k hk => Table.read_write_ne _ _ hk) (fun k hk y hy => hout y ?_ fun he => ?_) ?_
    (fun h => ?_) (fun y hy => ?_) (fun hv => ?_) fun _ => ?_
  · exact fun he => hs.free_disjoint hcfree k (he ▸ hy)
  · exact hs.chain_disjoint hk hy (htailmem y he)
  · simp only [State.chainOf, Table.read_write_self]
    rw [hwalk, (charged_frame s m).2.2.1, hf, List.tail_cons]
    show (rest ++ (s.chainOf m ++ [c])).Perm (c :: (rest ++ s.chainOf m))
    rw [← List.append_assoc]
    exact List.perm_append_singleton c _
  · simp only [Table.read_write_self, charged_charge, Message.cellsBy, Message.grown]
    split <;> omega
  · have hy' : y ∈ rest := by simpa [(charged_frame s m).2.2.1, hf] using hy
    have hnodup := (List.nodup_append.1 hs.nodup).1
    rw [hf] at hnodup
    have hyfree : y ∈ s.freeList := by simp [hf, hy']
    refine (hout y ?_ fun he => hs.free_disjoint hyfree m (htailmem y he)).trans (hs.blank y hyfree)
    exact fun he => (List.nodup_cons.1 hnodup).1 (he ▸ hy')
  · simp only [Table.read_write_self] at hv ⊢
    exact absurd hv ((Message.isLive_iff _).1 hm)
  · simp only [State.chainOf, Table.read_write_self]
    rw [hwalk]
    refine ⟨hbound, ?_, ?_, ?_, ?_, fun y hy => ?_, fun y hy => ?_⟩
    · show (s.messages.read m).cellCount + 1 = cellsFor ((s.messages.read m).length + bytes.length)
      omega
    · rw [List.length_append, hlength]
      rfl
    · show (s.chainOf m ++ [c]).head? = some ((s.messages.read m).head.getD c)
      rw [List.head?_append, hhead]
      cases (s.messages.read m).head <;> rfl
    · rw [List.getLast?_concat]
      rfl
    · rw [List.dropLast_concat] at hy
      have hne : y ≠ c := fun he => hs.free_disjoint hcfree m (he ▸ hy)
      rw [fillTail_read, if_neg fun he => hne (Option.some.inj he).symm, linkBehind_read]
      split
      · rfl
      · next ht =>
        obtain hd | hd := mem_dropLast_or_getLast? hy
        · exact hfull y hd
        · exact absurd (htail.symm.trans hd) ht
    · rw [List.getLast?_concat] at hy
      obtain rfl := Option.some.inj hy
      have ht : (s.messages.read m).tail ≠ some c := fun ht => hs.free_disjoint hcfree m (htailmem c ht.symm)
      rw [fillTail_read, if_pos rfl, linkBehind_read, if_neg ht, hs.blank c hcfree]
      rfl

/-- An accepted append keeps the storage whole (R6, R69). -/
theorem stored_appendBytes {bytes : List Byte} (hs : s.Stored) (hm : (s.messages.read m).isLive)
    (hbound : (s.messages.read m).length + bytes.length ≤ Config.maxMessage) (hpos : 1 ≤ bytes.length)
    (hcount : bytes.length ≤ 64)
    (hfree : newCells (s.messages.read m).length bytes.length ≤ s.freeCount) : (appendBytes m bytes s).Stored := by
  have hle := newCells_le_one (length := (s.messages.read m).length) hcount
  obtain hn | hn : newCells (s.messages.read m).length bytes.length = 0
      ∨ newCells (s.messages.read m).length bytes.length = 1 := by omega
  · exact stored_appendBytes_within hs hm hbound hpos hn
  · cases hf : s.freeList with
    | nil => simp [State.freeCount, hf, hn] at hfree
    | cons c rest => exact stored_appendBytes_beyond hs hm hbound hf hn

/-! ## The law, effect by effect -/

theorem stored_links (hs : s.Stored) {t : State} (ht : SettlesLinks s t) : t.Stored := by
  rw [ht.same]
  exact hs.congr rfl rfl rfl fun _ => rfl

theorem stored_commitTake (hs : s.Stored) (h : HostId) (p : Commit) : (commitTake h p s).Stored := by
  unfold commitTake
  split
  · next e n last _ =>
    have hmoved : (s.modEntry e fun x => { x with offset := x.offset + n }).Stored := hs.congr rfl rfl rfl fun _ => rfl
    dsimp only
    split
    · exact (stored_removeEntry hmoved h e).congr rfl rfl rfl fun _ => rfl
    · exact hmoved
  · exact stored_removeEntry hs h _
  · exact hs

end

/-- An account rewritten with the charge it had. -/
theorem update_charge (s : State) (g h : HostId) {f : Account → Account} (hf : ∀ a, (f a).charge = a.charge) :
    ((s.accounts.update g f).read h).charge = (s.accounts.read h).charge := by
  rw [Table.read_update]
  split
  · next hg => rw [hf, hg]
  · rfl

section
variable {s : State} (hs : s.Stored)
include hs

theorem stored_admitMember (h : HostId) (r : Request) : (admitMember h r s).Stored :=
  hs.congr rfl rfl rfl fun g => by
    simp only [admitMember, State.modMember_accounts, State.modDesk_accounts, State.modAccount_accounts]
    exact update_charge s h g (by intro _; rfl)

theorem stored_storeThreshold (h : HostId) (b : Word16) : (storeThreshold h b s).Stored := by
  unfold storeThreshold
  dsimp only
  split
  · exact hs.congr rfl rfl rfl fun g => update_charge s h g (by intro _; rfl)
  · exact hs.congr rfl rfl rfl fun _ => rfl

theorem stored_answerTakeHead (h : HostId) (n : Nat) (e : EntryId) : (answerTakeHead h n e s).Stored := by
  unfold answerTakeHead
  dsimp only
  split <;> exact hs.congr rfl rfl rfl fun _ => rfl

theorem stored_commitFetchNotice (h : HostId) (p : Commit) : (commitFetchNotice h p s).Stored := by
  unfold commitFetchNotice
  split
  · exact hs.congr rfl rfl rfl fun _ => rfl
  · exact hs

theorem stored_commitReadCounter (h : HostId) (p : Commit) : (commitReadCounter h p s).Stored := by
  unfold commitReadCounter
  split
  · exact hs.congr rfl rfl rfl fun _ => rfl
  · exact hs

end

theorem stored_underReset (s : State) : s.underReset.Stored :=
  stored_of_empty (Table.read_replicate _) (Table.read_replicate _)
    ((underReset_freeList s).trans (by simp only [State.reset]))
    fun h => congrArg Account.charge (Table.read_replicate _ h)

/-- An accepted PUT meets its bound on the length and finds its cells (checks 4 and 5 of R67). -/
theorem put_bounds {s : State} {x : Message} {h : HostId} {n : Nat} (hlength : s.exceedsLength x n = false)
    (hcells : s.lacksCells h (newCells x.length n) = false) :
    x.length + n ≤ Config.maxMessage ∧ newCells x.length n ≤ s.freeCount := by
  simp only [State.exceedsLength, State.lacksCells, Bool.or_eq_false_iff, Bool.and_eq_false_iff, bne_eq_false_iff_eq,
    decide_eq_false_iff_not, Nat.not_lt] at hlength hcells
  omega

/-- Every effect keeps the storage whole. -/
theorem stored_effect {F : Prop} {c : Instr} {s t : State} (hframed : F) (he : Effect F c s t) (hs : s.Stored) :
    t.Stored := by
  cases he with
  | links ht => exact stored_links hs ht
  | judged => exact stored_judgeVote hs
  | admitted r => exact stored_admitMember hs _ r
  | departed final n => exact stored_teardown hs _ final n
  | setThreshold b => exact stored_storeThreshold hs _ b
  | tookHead => exact stored_answerTakeHead hs _ _ _
  | committedTake => exact stored_commitTake (stored_links hs (settlesLinks_closeTransaction _ s)) _ _
  | committedNotice p => exact stored_commitFetchNotice hs _ p
  | committedCounter p => exact stored_commitReadCounter hs _ p
  | voided =>
    exact hs.congr (by simp [voidRead_eq]) (by simp [voidRead_eq]) (by simp [voidRead_eq]) (by simp [voidRead_eq])
  | closedChannel => exact stored_closeChannel hs _
  | unsubscribed => exact stored_freeSubscription (stored_removeEntries hs _ _) _
  | @began h r i m _ hj hf ha hi hm =>
    exact stored_startMessage (hs.congr (by simp) (by simp) (by simp) (by simp)) _ (by simpa using hm)
  | put hj hm hlength hcells hpos hcount hbytes =>
    have hn := hbytes hframed
    subst hn
    obtain ⟨hbound, hfree⟩ := put_bounds hlength hcells
    exact stored_appendBytes hs (fillingOf_isLive hm) hbound hpos hcount hfree
  | @sealed h m _ hm =>
    have hsealed := stored_release (stored_sealMessage hs (fillingOf_isLive hm)) m
    exact stored_endTurnOf (hsealed.congr (by simp) (by simp) (by simp) (by simp)) _
  | aborted hm => exact stored_abortMessage hs (fillingOf_isLive hm)
  | skipped => exact stored_removeEntry hs _ _
  | reset ht =>
    rw [next_eq_of_eq (execDeviceReset_eq s) ht]
    exact stored_underReset s
  | _ => exact hs.congr (by simp) (by simp) (by simp) (by simp)

/-- Settles O58: every effect of a step keeps the storage whole, and the step keeps the framers, on which the length of a
PUT's payload rests. -/
theorem stepKeepsStorage : Obligations.StepKeepsStorage := by
  intro s t hl ht
  rw [storageLaw_iff] at hl ⊢
  obtain ⟨hs, hlink⟩ := hl
  exact ⟨step_keeps (P := State.Stored) (fun _ _ hu => hu.congr rfl rfl rfl fun _ => rfl)
      (fun _ _ _ he hu => stored_effect hlink he hu) hs ht,
    stepKeepsFramers s t hlink ht⟩

end Sys2Proof.Machine
end

section
/-! SUPPORT. Deliveries: the references, the queues, the live counts, the subscriptions and the reads in flight, as laws of
the tables that hold between the parts of a command too, when a reference has been counted down or is yet to be (R16, R27,
R28, R44, R45, R85 to R88). -/

namespace Sys2Proof.Machine

/-! ## Counting records -/

section
variable {α : Type} {n : Nat}

theorem countIf_eq_sum (t : Table α n) (p : α → Bool) : t.countIf p = ∑ i, (p (t.read i)).toNat := by
  unfold Table.countIf Table.indices
  rw [Fin.sum_univ_def]
  induction List.finRange n with
  | nil => rfl
  | cons a l ih => cases hp : p (t.read a) <;> simp [hp, ih, Nat.add_comm]

/-- One record changed. -/
theorem countIf_exchange {t u : Table α n} {m : Fin n} (h : ∀ k, k ≠ m → u.read k = t.read k) (p : α → Bool) :
    u.countIf p + (p (t.read m)).toNat = t.countIf p + (p (u.read m)).toNat := by
  rw [countIf_eq_sum, countIf_eq_sum]
  exact sum_exchange (f := fun k => (p (t.read k)).toNat) (g := fun k => (p (u.read k)).toNat) fun k hk => by rw [h k hk]

theorem countIf_congr {t u : Table α n} {p q : α → Bool} (h : ∀ k, q (u.read k) = p (t.read k)) :
    u.countIf q = t.countIf p := by
  rw [countIf_eq_sum, countIf_eq_sum]
  exact Finset.sum_congr rfl fun k _ => by rw [h k]

theorem countIf_eq_zero_iff (t : Table α n) (p : α → Bool) : t.countIf p = 0 ↔ ∀ k, p (t.read k) = false := by
  rw [countIf_eq_sum, Finset.sum_eq_zero_iff]
  simp

end

/-! ## The laws of the tables -/

/-- References (R16): a live message's count is its entries, its publisher's hold, and the references `held` that an
operation under way has taken over. -/
structure State.Referred (held : List MsgId) (s : State) : Prop where
  count : ∀ m, (s.messages.read m).isLive = true →
    (s.messages.read m).refCount =
      s.entriesOf m + (if (s.messages.read m).state = .filling then 1 else 0) + held.count m
  pos : ∀ m, (s.messages.read m).isLive = true → (s.messages.read m).refCount ≠ 0
  held : ∀ m ∈ held, (s.messages.read m).isLive = true
  live : ∀ e, (s.entries.read e).inUse = true → (s.messages.read (s.entries.read e).message).isLive = true
  within : ∀ e, (s.entries.read e).inUse = true →
    (s.entries.read e).offset ≤ (s.messages.read (s.entries.read e).message).length
  free : ∀ e, (s.entries.read e).inUse = false → s.entries.read e = Entry.free
  vacant : ∀ m, (s.messages.read m).state = .vacant → s.messages.read m = Message.vacant

/-- Queues (R86 to R88). -/
structure State.Queueing (s : State) : Prop where
  nodup : ∀ h, (s.queues.read h).Nodup
  sole : ∀ g h e, e ∈ s.queues.read g → e ∈ s.queues.read h → g = h
  used : ∀ e, (s.entries.read e).inUse = true ↔ ∃ h, e ∈ s.queues.read h
  apart : ∀ h, ((s.queues.read h).map (fun e => (s.entries.read e).message)).Nodup
  waiting : ∀ h, ∀ e ∈ (s.queues.read h).tail, (s.entries.read e).state = .queued

/-- Live counts (R27). -/
structure State.Populated (s : State) : Prop where
  count : ∀ c, (s.channels.read c).liveCount = s.liveOn c
  place : ∀ m, (s.messages.read m).isLive = true → (s.channels.read (s.messages.read m).channel).state ≠ .closed
    ∧ (s.channels.read (s.messages.read m).channel).key = (s.messages.read m).key
  filling : ∀ m, (s.messages.read m).state = .filling →
    (s.channels.read (s.messages.read m).channel).state = .opened

/-- Subscriptions (R28, R44, R45). -/
structure State.Subscribing (s : State) : Prop where
  count : ∀ c, (s.channels.read c).subscriberCount = s.subscribersOn c
  opened : ∀ i, (s.subs.read i).state ≠ .free → (s.channels.read (s.subs.read i).channel).state = .opened
  queued : ∀ i, (s.subs.read i).state ≠ .free → (s.subs.read i).queued = s.entriesNaming i
  place : ∀ h, ∀ e ∈ s.queues.read h, ∀ i, (s.entries.read e).subscription = some i →
    (s.subs.read i).state ≠ .free ∧ (s.subs.read i).owner = h
      ∧ (s.subs.read i).channel = (s.messages.read (s.entries.read e).message).channel

/-- A read that answers from an entry (R135). -/
def PendingResult.takes (p : PendingResult) (e : EntryId) : Prop :=
  ∃ o n last opened, p.commit = .take e o n last opened ∧ (o = .data ∨ o = .aborted)

/-- The reads in flight `pend`, host by host, answer from heads that stay (R100, R135). -/
structure State.Reading (pend : HostId → Option PendingResult) (s : State) : Prop where
  head : ∀ h p e, pend h = some p → p.takes e →
    (s.queues.read h).head? = some e ∧ (s.entries.read e).state = .opened
  commit : ∀ h p e o n last opened, pend h = some p → p.commit = .take e o n last opened →
    (opened = true → o = .data ∨ o = .aborted)
      ∧ (o = .data → (s.entries.read e).offset + n ≤ (s.messages.read (s.entries.read e).message).length)
      ∧ (last = true → o = .data ∧ (s.messages.read (s.entries.read e).message).state = .sealed)

/-- The five laws together. -/
structure State.Delivering (held : List MsgId) (pend : HostId → Option PendingResult) (s : State) : Prop where
  refs : s.Referred held
  queues : s.Queueing
  channels : s.Populated
  subs : s.Subscribing
  reads : s.Reading pend

/-- The reads in flight on the links. -/
def State.reads (s : State) (h : HostId) : Option PendingResult := (s.links.read h).pendingResult

theorem nodup_queues_iff (s : State) : (allHosts.flatMap s.queues.read).Nodup ↔
    (∀ h, (s.queues.read h).Nodup) ∧ ∀ g h e, e ∈ s.queues.read g → e ∈ s.queues.read h → g = h := by
  rw [List.nodup_flatMap]
  refine and_congr ⟨fun h g => h g (mem_allHosts g), fun h g _ => h g⟩ ⟨fun hp g h e hg hh => ?_, fun hs => ?_⟩
  · by_contra hne
    have hsymm : Std.Symm (Function.onFun List.Disjoint s.queues.read) := ⟨fun _ _ hd => List.Disjoint.symm hd⟩
    exact (hp.forall (mem_allHosts g) (mem_allHosts h) hne) hg hh
  · refine List.Pairwise.imp (R := fun g h => g ≠ h) (fun hne e hg hh => hne (hs _ _ e hg hh)) ?_
    decide

theorem deliveryLaw_iff (s : State) : deliveryLaw s ↔
    s.Delivering [] s.reads ∧ channelTableLaw s ∧ subscriptionTableLaw s ∧ fillingLaw s ∧ linkLaw s := by
  constructor
  · rintro ⟨h3, ⟨h4, h4'⟩, h5, ⟨-, h7⟩, h9, hchan, hsub, hfill, hlink, hcount, hfree, hentry, hvacant, hplace, hopen,
      hsubs, htakes, hcommit⟩
    obtain ⟨hnodup, hsole⟩ := (nodup_queues_iff s).1 h4
    refine ⟨⟨⟨fun m hm => by simpa using (h3 m hm).1, fun m hm => (h3 m hm).2, nofun, fun e he => (hentry e he).1,
      fun e he => (hentry e he).2, hfree, hvacant⟩, ⟨hnodup, hsole, h4', fun h => (h5 h).1, fun h => (h5 h).2⟩,
      ⟨h7, hplace, hopen⟩, ⟨hcount, fun i hi => (h9 i hi).2.1, fun i hi => (h9 i hi).2.2.1, hsubs⟩,
      ⟨fun h p e hp ⟨o, n, last, opened, hc, ho⟩ => htakes h e ⟨p, o, n, last, opened, hp, hc, ho⟩, hcommit⟩⟩,
      hchan, hsub, hfill, hlink⟩
  · rintro ⟨⟨hr, hq, hc, hs, hp⟩, hchan, hsub, hfill, hlink⟩
    refine ⟨fun m hm => ⟨by simpa using hr.count m hm, hr.pos m hm⟩,
      ⟨(nodup_queues_iff s).2 ⟨hq.nodup, hq.sole⟩, hq.used⟩, fun h => ⟨hq.apart h, hq.waiting h⟩,
      ⟨hchan.2.2.1, hc.count⟩, fun i hi => ?_, hchan, hsub, hfill, hlink, hs.count, hr.free,
      fun e he => ⟨hr.live e he, hr.within e he⟩, hr.vacant, hc.place, hc.filling, hs.place,
      fun h e ⟨p, o, n, last, opened, hpend, hcom, ho⟩ => hp.head h p e hpend ⟨o, n, last, opened, hcom, ho⟩, hp.commit⟩
    obtain ⟨hj, ho, -, -, -, hle⟩ := hsub.2 i hi
    exact ⟨hj, ho, hs.queued i hi, hle⟩

/-! ## Who fills a message -/

/-- The same messages are FILLING, for the same publishers. -/
def FillsSame (s t : State) : Prop := ∀ m,
  ((t.messages.read m).state = .filling ↔ (s.messages.read m).state = .filling)
    ∧ ((t.messages.read m).state = .filling → (t.messages.read m).publisher = (s.messages.read m).publisher)

namespace FillsSame

variable {s t u : State}

theorem of_eq (h : t.messages = s.messages) : FillsSame s t := fun _ => by rw [h]; exact ⟨Iff.rfl, fun _ => rfl⟩

theorem refl (s : State) : FillsSame s s := of_eq rfl

theorem trans (hst : FillsSame s t) (htu : FillsSame t u) : FillsSame s u := fun m =>
  ⟨(htu m).1.trans (hst m).1, fun hm => ((htu m).2 hm).trans ((hst m).2 ((htu m).1.1 hm))⟩

/-- One record rewritten. -/
theorem write {m : MsgId} {x : Message} (h : t.messages = s.messages.write m x)
    (hx : (x.state = .filling ↔ (s.messages.read m).state = .filling) ∧
      (x.state = .filling → x.publisher = (s.messages.read m).publisher)) : FillsSame s t := fun k => by
  rw [h, Table.read_write]
  split
  · next hk => subst hk; exact hx
  · exact ⟨Iff.rfl, fun _ => rfl⟩

end FillsSame

/-! ## What the laws keep -/

namespace State

variable {held : List MsgId} {pend pend' : HostId → Option PendingResult} {s t : State}

theorem Delivering.congr (hd : s.Delivering held pend) (hm : t.messages = s.messages) (hc : t.channels = s.channels)
    (hs : t.subs = s.subs) (he : t.entries = s.entries) (hq : t.queues = s.queues) : t.Delivering held pend := by
  obtain ⟨⟨a1, a2, a3, a4, a5, a6, a7⟩, ⟨b1, b2, b3, b4, b5⟩, ⟨c1, c2, c3⟩, ⟨d1, d2, d3, d4⟩, ⟨e1, e2⟩⟩ := hd
  have hof : t.entriesOf = s.entriesOf := by funext m; rw [entriesOf, he, entriesOf]
  have hnaming : t.entriesNaming = s.entriesNaming := by funext i; rw [entriesNaming, he, entriesNaming]
  have hlive : t.liveOn = s.liveOn := by funext c; rw [liveOn, hm, liveOn]
  have hsubscribers : t.subscribersOn = s.subscribersOn := by funext c; rw [subscribersOn, hs, subscribersOn]
  rw [← hm, ← hof] at a1
  rw [← hm] at a2 a3 a7
  rw [← hm, ← he] at a4 a5
  rw [← he] at a6
  rw [← hq] at b1 b2
  rw [← hq, ← he] at b3 b4 b5
  rw [← hc, ← hlive] at c1
  rw [← hc, ← hm] at c2 c3
  rw [← hc, ← hsubscribers] at d1
  rw [← hc, ← hs] at d2
  rw [← hs, ← hnaming] at d3
  rw [← hs, ← hq, ← he, ← hm] at d4
  rw [← hq, ← he] at e1
  rw [← he, ← hm] at e2
  exact ⟨⟨a1, a2, a3, a4, a5, a6, a7⟩, ⟨b1, b2, b3, b4, b5⟩, ⟨c1, c2, c3⟩, ⟨d1, d2, d3, d4⟩, ⟨e1, e2⟩⟩

/-- Reads in flight whose heads, entries and messages stay; some of them may be dropped. -/
theorem Reading.keep (hr : s.Reading pend) (hle : ∀ h p, pend' h = some p → pend h = some p)
    (hk : ∀ h p e, pend' h = some p → p.takes e → (s.queues.read h).head? = some e →
      (s.entries.read e).state = .opened →
      (t.queues.read h).head? = some e ∧ (t.entries.read e).state = .opened
        ∧ (t.entries.read e).offset = (s.entries.read e).offset
        ∧ (s.messages.read (s.entries.read e).message).length ≤ (t.messages.read (t.entries.read e).message).length
        ∧ ((s.messages.read (s.entries.read e).message).state = .sealed →
          (t.messages.read (t.entries.read e).message).state = .sealed)) : t.Reading pend' := by
  have key : ∀ h p e, pend' h = some p → p.takes e → _ := fun h p e hp ht =>
    hk h p e hp ht (hr.head h p e (hle h p hp) ht).1 (hr.head h p e (hle h p hp) ht).2
  refine ⟨fun h p e hp ht => ?_, fun h p e o n last opened hp hc => ?_⟩
  · obtain ⟨hhead, hopened, -⟩ := key h p e hp ht
    exact ⟨hhead, hopened⟩
  · obtain ⟨hopened, hdata, hlast⟩ := hr.commit h p e o n last opened (hle h p hp) hc
    refine ⟨hopened, fun ho => ?_, fun hl => ?_⟩
    · obtain ⟨-, -, hoffset, hlength, -⟩ := key h p e hp ⟨o, n, last, opened, hc, .inl ho⟩
      exact hoffset ▸ (hdata ho).trans hlength
    · obtain ⟨ho, hsealed⟩ := hlast hl
      obtain ⟨-, -, -, -, hstate⟩ := key h p e hp ⟨o, n, last, opened, hc, .inl ho⟩
      exact ⟨ho, hstate hsealed⟩

/-- Reads may be dropped. -/
theorem Delivering.drop (hd : s.Delivering held pend) (hle : ∀ h p, pend' h = some p → pend h = some p) :
    s.Delivering held pend' :=
  ⟨hd.refs, hd.queues, hd.channels, hd.subs,
    hd.reads.keep hle fun _ _ _ _ _ hhead hopened => ⟨hhead, hopened, rfl, le_rfl, id⟩⟩

/-- A head is in use. -/
theorem Delivering.head_used (hd : s.Delivering held pend) {h : HostId} {e : EntryId}
    (he : (s.queues.read h).head? = some e) : (s.entries.read e).inUse = true :=
  (hd.queues.used e).2 ⟨h, List.mem_of_mem_head? he⟩

end State

end Sys2Proof.Machine
end

section
/-! SUPPORT. The laws of the deliveries through the shared operations: the freeing of a message, the release of a reference,
the removal of an entry, a delivery, and the freeing of a subscription (R17 to R19, R45, R49, R89 to R93, R100). -/

namespace Sys2Proof.Machine

theorem queueing_congr {s t : State} (hq : s.Queueing) (he : t.entries = s.entries) (hs : t.queues = s.queues) :
    t.Queueing := by
  obtain ⟨a, b, c, d, e⟩ := hq
  exact ⟨by rw [hs]; exact a, by rw [hs]; exact b, by rw [hs, he]; exact c, by rw [hs, he]; exact d,
    by rw [hs, he]; exact e⟩

/-! ## The freeing of a message (R19) -/

theorem Message.isLive_vacant : Message.vacant.isLive = false := rfl

theorem Message.isLive_of_filling {x : Message} (hx : x.state = .filling) : x.isLive = true := by
  simp [Message.isLive, hx]

/-- What the freeing of a message does to the tables of this law. -/
structure FreedTables (m : MsgId) (s t : State) : Prop where
  messages : t.messages = s.messages.write m Message.vacant
  channels : ∀ c, t.channels.read c =
    if c ≠ (s.messages.read m).channel then s.channels.read c
    else if (s.channels.read c).state = .draining ∧ (s.channels.read c).liveCount ≤ 1 then Channel.closed
    else { s.channels.read c with liveCount := (s.channels.read c).liveCount - 1 }
  subs : t.subs = s.subs
  entries : t.entries = s.entries
  queues : t.queues = s.queues

theorem entriesOf_eq_zero_iff (s : State) (m : MsgId) :
    s.entriesOf m = 0 ↔ ∀ e, (s.entries.read e).inUse = true → (s.entries.read e).message ≠ m := by
  rw [State.entriesOf, countIf_eq_zero_iff]
  simp

/-- The one reference left of a live message is that of the operation under way. -/
structure LastReference (held : List MsgId) (m : MsgId) (s : State) : Prop where
  live : (s.messages.read m).isLive = true
  unused : ∀ e, (s.entries.read e).inUse = true → (s.entries.read e).message ≠ m
  notFilling : (s.messages.read m).state ≠ .filling
  notHeld : m ∉ held

theorem lastReference {held : List MsgId} {m : MsgId} {s : State} (hr : s.Referred (m :: held))
    (hone : (s.messages.read m).refCount = 1) : LastReference held m s := by
  have hlive := hr.held m List.mem_cons_self
  have hcount := hr.count m hlive
  rw [List.count_cons_self] at hcount
  refine ⟨hlive, (entriesOf_eq_zero_iff s m).1 (by omega), fun hf => ?_, fun hm => ?_⟩
  · rw [if_pos hf] at hcount
    omega
  · have := List.count_pos_iff.2 hm
    omega

namespace FreedTables

variable {held : List MsgId} {pend : HostId → Option PendingResult} {s t : State} {m : MsgId}

theorem other (hf : FreedTables m s t) {k : MsgId} (hk : k ≠ m) : t.messages.read k = s.messages.read k := by
  rw [hf.messages, Table.read_write_ne _ _ hk]

theorem self (hf : FreedTables m s t) : t.messages.read m = Message.vacant := by
  rw [hf.messages, Table.read_write_self]

theorem ne_of_live (hf : FreedTables m s t) {k : MsgId} (hk : (t.messages.read k).isLive = true) : k ≠ m := fun he => by
  rw [he, hf.self] at hk
  cases hk

/-- No OPEN channel closes. -/
theorem opened (hf : FreedTables m s t) {c : ChanId} (hc : (s.channels.read c).state = .opened) :
    (t.channels.read c).state = .opened := by
  rw [hf.channels]
  split
  · exact hc
  · rw [if_neg (by simp [hc])]
    exact hc

theorem referred (hf : FreedTables m s t) (hr : s.Referred (m :: held)) (hl : LastReference held m s) :
    t.Referred held where
  count k hk := by
    have hkm := hf.ne_of_live hk
    rw [hf.other hkm] at hk ⊢
    have hcount := hr.count k hk
    rwa [List.count_cons_of_ne (Ne.symm hkm), State.entriesOf, ← hf.entries] at hcount
  pos k hk := by
    have hkm := hf.ne_of_live hk
    rw [hf.other hkm] at hk ⊢
    exact hr.pos k hk
  held k hk := by
    rw [hf.other fun he => hl.notHeld (he ▸ hk)]
    exact hr.held k (List.mem_cons_of_mem m hk)
  live e he := by
    rw [hf.entries] at he ⊢
    rw [hf.other (hl.unused e he)]
    exact hr.live e he
  within e he := by
    rw [hf.entries] at he ⊢
    rw [hf.other (hl.unused e he)]
    exact hr.within e he
  free := by rw [hf.entries]; exact hr.free
  vacant k hk := by
    by_cases hkm : k = m
    · rw [hkm, hf.self]
    · rw [hf.other hkm] at hk ⊢
      exact hr.vacant k hk

theorem liveOn (hf : FreedTables m s t) (hm : (s.messages.read m).isLive = true) (c : ChanId) :
    t.liveOn c + (if (s.messages.read m).channel = c then 1 else 0) = s.liveOn c := by
  have hx := countIf_exchange (fun k hk => hf.other (k := k) hk) (fun x => x.isLive && x.channel == c)
  rw [hf.self, hm] at hx
  unfold State.liveOn
  split
  · next hcm => simpa [hcm, Message.isLive_vacant] using hx
  · next hcm => simpa [beq_false_of_ne hcm, Message.isLive_vacant] using hx

theorem liveCount (hf : FreedTables m s t) (hm : (s.messages.read m).isLive = true) (hc : s.Populated) (c : ChanId) :
    (t.channels.read c).liveCount = t.liveOn c := by
  have hl := hf.liveOn hm c
  have hold := hc.count c
  rw [hf.channels]
  split
  · next hcm =>
    rw [if_neg (Ne.symm hcm)] at hl
    omega
  · next hcm =>
    rw [if_pos (not_not.1 hcm).symm] at hl
    split
    · show 0 = _
      omega
    · dsimp only
      omega

/-- A message is one of the live messages of its channel. -/
theorem liveOn_pos {k : MsgId} (hk : (t.messages.read k).isLive = true) : 0 < t.liveOn (t.messages.read k).channel :=
  Nat.pos_of_ne_zero fun h0 => by simpa [hk] using (countIf_eq_zero_iff _ _).1 h0 k

theorem populated (hf : FreedTables m s t) (hm : (s.messages.read m).isLive = true) (hc : s.Populated) :
    t.Populated := by
  refine ⟨hf.liveCount hm hc, fun k hk => ?_, fun k hk => ?_⟩
  · have hon := liveOn_pos hk
    have hkm := hf.ne_of_live hk
    rw [← hf.liveCount hm hc] at hon
    rw [hf.other hkm] at hk hon ⊢
    obtain ⟨hopen, hkey⟩ := hc.place k hk
    rw [hf.channels] at hon ⊢
    split
    · exact ⟨hopen, hkey⟩
    · next hcm =>
      rw [if_neg hcm] at hon
      split
      · next hdrain =>
        rw [if_pos hdrain] at hon
        exact absurd hon (Nat.lt_irrefl 0)
      · exact ⟨hopen, hkey⟩
  · have hkm := hf.ne_of_live (Message.isLive_of_filling hk)
    rw [hf.other hkm] at hk ⊢
    exact hf.opened (hc.filling k hk)

theorem subscribing (hf : FreedTables m s t) (hq : s.Queueing) (hs : s.Subscribing) (hl : LastReference held m s) :
    t.Subscribing where
  count c := by
    have hcount : t.subscribersOn c = s.subscribersOn c := by rw [State.subscribersOn, hf.subs, State.subscribersOn]
    rw [hcount, hf.channels]
    split
    · exact hs.count c
    split
    · next hdrain =>
      refine ((countIf_eq_zero_iff _ _).2 fun i => ?_).symm
      refine Bool.eq_false_iff.2 fun hi => ?_
      simp only [Bool.and_eq_true, bne_iff_ne, beq_iff_eq] at hi
      have ho := hs.opened i hi.1
      rw [hi.2, hdrain.1] at ho
      cases ho
    · exact hs.count c
  opened i hi := by
    rw [hf.subs] at hi ⊢
    exact hf.opened (hs.opened i hi)
  queued i hi := by
    rw [hf.subs] at hi ⊢
    rw [State.entriesNaming, hf.entries]
    exact hs.queued i hi
  place h e he i hi := by
    rw [hf.queues] at he
    rw [hf.entries] at hi ⊢
    rw [hf.subs, hf.other (hl.unused e ((hq.used e).2 ⟨h, he⟩))]
    exact hs.place h e he i hi

theorem reading (hf : FreedTables m s t) (hq : s.Queueing) (hp : s.Reading pend) (hl : LastReference held m s) :
    t.Reading pend :=
  hp.keep (fun _ _ hp => hp) fun h _ e _ _ hhead hopened => by
    have hused := (hq.used e).2 ⟨h, List.mem_of_mem_head? hhead⟩
    rw [hf.queues, hf.entries, hf.other (hl.unused e hused)]
    exact ⟨hhead, hopened, rfl, le_rfl, id⟩

/-- The message without references is gone from the tables. -/
theorem delivering (hf : FreedTables m s t) (hd : s.Delivering (m :: held) pend)
    (hone : (s.messages.read m).refCount = 1) : t.Delivering held pend := by
  have hl := lastReference hd.refs hone
  exact ⟨hf.referred hd.refs hl, queueing_congr hd.queues hf.entries hf.queues, hf.populated hl.live hd.channels,
    hf.subscribing hd.queues hd.subs hl, hf.reading hd.queues hd.reads hl⟩

end FreedTables

section
variable {held : List MsgId} {pend : HostId → Option PendingResult} {s t : State}

/-! ## The release of a reference (R17, R18) -/

theorem freedTables_freeMessage (m : MsgId) (s : State) : FreedTables m s (freeMessage m s) := by
  have hf := freed_freeMessage m s
  obtain ⟨-, -, -, -, hsubs, hentries, hqueues, -⟩ := hf.frame
  exact ⟨hf.messages, hf.channels, hsubs, hentries, hqueues⟩

/-- What a live message may become while no entry and no channel changes. -/
structure Message.Continues (x y : Message) : Prop where
  live : y.isLive = x.isLive
  channel : y.channel = x.channel
  key : y.key = x.key
  filling : y.state = .filling → x.state = .filling
  length : x.length ≤ y.length
  seals : x.state = .sealed → y.state = .sealed

/-- One message rewritten; the references to it that are held may change with its count. -/
theorem delivering_rewrite {m : MsgId} {y : Message} {held' : List MsgId} (hd : s.Delivering held pend)
    (hm : (s.messages.read m).isLive = true) (hy : (s.messages.read m).Continues y)
    (hcount : y.refCount = s.entriesOf m + (if y.state = .filling then 1 else 0) + held'.count m) (hpos : y.refCount ≠ 0)
    (hheld : ∀ k, k ≠ m → held'.count k = held.count k)
    (ht : t.messages = s.messages.write m y) (hc : t.channels = s.channels) (hs : t.subs = s.subs)
    (he : t.entries = s.entries) (hq : t.queues = s.queues) : t.Delivering held' pend := by
  have hself : t.messages.read m = y := by rw [ht, Table.read_write_self]
  have hother : ∀ k, k ≠ m → t.messages.read k = s.messages.read k := fun k hk => by
    rw [ht, Table.read_write_ne _ _ hk]
  have hall : ∀ k, (s.messages.read k).Continues (t.messages.read k) := fun k => by
    by_cases hk : k = m
    · rw [hk, hself]
      exact hy
    · rw [hother k hk]
      exact ⟨rfl, rfl, rfl, id, le_rfl, id⟩
  have hof : t.entriesOf = s.entriesOf := by funext k; rw [State.entriesOf, he, State.entriesOf]
  refine ⟨⟨fun k hk => ?_, fun k hk => ?_, fun k hk => ?_, fun e hu => ?_, fun e hu => ?_, by rw [he]; exact hd.refs.free,
      fun k hk => ?_⟩, queueing_congr hd.queues he hq, ⟨fun c => ?_, fun k hk => ?_, fun k hk => ?_⟩,
    ⟨fun c => ?_, by rw [hs, hc]; exact hd.subs.opened, fun i hi => ?_, fun h e hmem i hi => ?_⟩, ?_⟩
  · rw [hof]
    by_cases hkm : k = m
    · rw [hkm, hself]
      exact hcount
    · rw [hother k hkm] at hk ⊢
      rw [hheld k hkm]
      exact hd.refs.count k hk
  · by_cases hkm : k = m
    · rw [hkm, hself]
      exact hpos
    · rw [hother k hkm] at hk ⊢
      exact hd.refs.pos k hk
  · rw [(hall k).live]
    by_cases hkm : k = m
    · rw [hkm]
      exact hm
    · exact hd.refs.held k (List.count_pos_iff.1 (hheld k hkm ▸ List.count_pos_iff.2 hk))
  · rw [he] at hu ⊢
    rw [(hall _).live]
    exact hd.refs.live e hu
  · rw [he] at hu ⊢
    exact (hd.refs.within e hu).trans (hall _).length
  · by_cases hkm : k = m
    · have hlive := (hall m).live
      rw [hm, (Message.isLive_eq_false_iff _).2 (hkm ▸ hk)] at hlive
      cases hlive
    · rw [hother k hkm] at hk ⊢
      exact hd.refs.vacant k hk
  · have hlive : t.liveOn c = s.liveOn c := countIf_congr fun k => by rw [(hall k).live, (hall k).channel]
    rw [hc, hlive]
    exact hd.channels.count c
  · rw [(hall k).live] at hk
    rw [hc, (hall k).channel, (hall k).key]
    exact hd.channels.place k hk
  · rw [hc, (hall k).channel]
    exact hd.channels.filling k ((hall k).filling hk)
  · have hcnt : t.subscribersOn c = s.subscribersOn c := by rw [State.subscribersOn, hs, State.subscribersOn]
    rw [hc, hcnt]
    exact hd.subs.count c
  · rw [hs] at hi ⊢
    rw [State.entriesNaming, he]
    exact hd.subs.queued i hi
  · rw [hq] at hmem
    rw [he] at hi ⊢
    rw [hs, (hall _).channel]
    exact hd.subs.place h e hmem i hi
  · refine hd.reads.keep (fun _ _ hp => hp) fun h _ e _ _ hhead hopened => ?_
    rw [hq, he]
    exact ⟨hhead, hopened, rfl, (hall _).length, (hall _).seals⟩

theorem freedTables_release {m : MsgId} (hone : (s.messages.read m).refCount = 1) :
    FreedTables m s (release m s) := by
  have hf := freedTables_freeMessage m
    { s with messages := s.messages.write m ({ s.messages.read m with refCount := (s.messages.read m).refCount - 1 }) }
  rw [release_eq, if_pos (by rw [hone])]
  refine ⟨?_, fun c => ?_, hf.subs, hf.entries, hf.queues⟩
  · rw [hf.messages, Table.write_write]
  · rw [hf.channels, Table.read_write_self]

theorem delivering_release {m : MsgId} (hd : s.Delivering (m :: held) pend) : (release m s).Delivering held pend := by
  have hlive := hd.refs.held m List.mem_cons_self
  have hcount := hd.refs.count m hlive
  have hpos := hd.refs.pos m hlive
  rw [List.count_cons_self] at hcount
  by_cases hone : (s.messages.read m).refCount = 1
  · exact (freedTables_release hone).delivering hd hone
  · have hzero : (s.messages.read m).refCount - 1 ≠ 0 := by omega
    rw [release_eq]
    rw [if_neg hzero]
    refine delivering_rewrite (m := m) (y := { s.messages.read m with refCount := (s.messages.read m).refCount - 1 }) hd
      hlive ⟨rfl, rfl, rfl, id, le_rfl, id⟩ ?_ hzero (fun k hk => ?_) rfl rfl rfl rfl rfl
    · dsimp only
      omega
    · rw [List.count_cons_of_ne (Ne.symm hk)]

/-- A message in another state. -/
def State.marked (s : State) (m : MsgId) (x : MsgState) : State :=
  { s with messages := s.messages.write m { s.messages.read m with state := x } }

theorem markAborted_streaming {m : MsgId} (hm : (s.messages.read m).mode = .streaming) :
    s.markAborted m = s.marked m .aborted := by
  simp [State.markAborted, State.marked, hm]

theorem markAborted_of_ne {m : MsgId} (hm : (s.messages.read m).mode ≠ .streaming) : s.markAborted m = s := by
  unfold State.markAborted
  dsimp only
  rw [if_neg hm]
  show { s with messages := s.messages.write m (s.messages.read m) } = s
  rw [Table.write_read]

/-- A FILLING message marked SEALED or ABORTED: its publisher's hold is yet to be dropped (R74, R80). -/
theorem delivering_marked {m : MsgId} {x : MsgState} (hd : s.Delivering held pend)
    (hm : (s.messages.read m).state = .filling) (hx : x ≠ .filling) (hx' : x ≠ .vacant) :
    (s.marked m x).Delivering (m :: held) pend := by
  have hlive := Message.isLive_of_filling hm
  have hcount := hd.refs.count m hlive
  rw [if_pos hm] at hcount
  refine delivering_rewrite (m := m) (y := { s.messages.read m with state := x }) hd hlive
    ⟨?_, rfl, rfl, fun h => absurd h hx, le_rfl, fun h => ?_⟩ ?_ (hd.refs.pos m hlive)
    (fun k hk => List.count_cons_of_ne (Ne.symm hk)) rfl rfl rfl rfl rfl
  · rw [Message.isLive_of_filling hm]
    exact (Message.isLive_iff _).2 hx'
  · cases hm.symm.trans h
  · dsimp only
    rw [if_neg hx, List.count_cons_self]
    omega

/-- The abort of a FILLING message (R80): a STREAMING one may live on ABORTED, and any other has the hold alone. -/
theorem delivering_abortMessage {m : MsgId} (hd : s.Delivering held pend) (hm : (s.messages.read m).state = .filling)
    (hone : (s.messages.read m).mode ≠ .streaming → (s.messages.read m).refCount ≤ 1) :
    (abortMessage m s).Delivering held pend := by
  have hmarked := delivering_marked hd hm (x := .aborted) nofun nofun
  have hreleased : (release m (s.markAborted m)).Delivering held pend := by
    by_cases hmode : (s.messages.read m).mode = .streaming
    · rw [markAborted_streaming hmode]
      exact delivering_release hmarked
    · have hlast : (s.messages.read m).refCount = 1 :=
        le_antisymm (hone hmode) (Nat.pos_of_ne_zero (hd.refs.pos m (Message.isLive_of_filling hm)))
      have hread : (s.marked m .aborted).messages.read m = { s.messages.read m with state := .aborted } :=
        Table.read_write_self _ _ _
      have hf := freedTables_release hlast
      have htables : FreedTables m (s.marked m .aborted) (release m s) := by
        refine ⟨?_, fun c => ?_, hf.subs, hf.entries, hf.queues⟩
        · rw [hf.messages, State.marked, Table.write_write]
        · rw [hf.channels, hread]
          rfl
      rw [markAborted_of_ne hmode]
      exact htables.delivering hmarked (by rw [hread]; exact hlast)
  rw [abortMessage_eq]
  exact hreleased.congr (by simp) (by simp) (by simp) (by simp) (by simp)

end

end Sys2Proof.Machine
end

section
/-! SUPPORT. The laws of the deliveries through the queues: the removal of an entry, a delivery, and the freeing of a
subscription (R45, R49, R89 to R93, R100). -/

namespace Sys2Proof.Machine

variable {held : List MsgId} {pend : HostId → Option PendingResult} {s t : State}

theorem head?_erase_of_ne {α : Type} [DecidableEq α] {l : List α} {a e : α} (ha : l.head? = some a) (hne : a ≠ e) :
    (l.erase e).head? = some a := by
  cases l with
  | nil => cases ha
  | cons b l =>
    obtain rfl := Option.some.inj ha
    rw [List.erase_cons_tail (by simpa using hne)]
    rfl

theorem mem_tail_of_mem_tail_erase {α : Type} [DecidableEq α] {l : List α} {e x : α} (hx : x ∈ (l.erase e).tail) :
    x ∈ l.tail := by
  cases l with
  | nil => exact hx
  | cons b l =>
    by_cases hb : b = e
    · rw [hb, List.erase_cons_head] at hx
      exact List.mem_of_mem_tail hx
    · rw [List.erase_cons_tail (by simpa using hb)] at hx
      exact List.mem_of_mem_erase hx

/-! ## The removal of an entry (R100) -/

section
variable {h : HostId} {e : EntryId}

theorem unqueued_entry_ne (s : State) {x : EntryId} (hx : x ≠ e) :
    (s.unqueued h e).entries.read x = s.entries.read x := Table.read_write_ne _ _ hx

theorem unqueued_entry_self (s : State) : (s.unqueued h e).entries.read e = Entry.free := Table.read_write_self _ _ _

theorem unqueued_queue (s : State) (g : HostId) :
    (s.unqueued h e).queues.read g = if g = h then (s.queues.read h).erase e else s.queues.read g :=
  Table.read_write _ _ _ _

/-- What is left in the queues: the entry is gone, and nothing else. -/
theorem mem_unqueued_queue (hq : s.Queueing) (he : e ∈ s.queues.read h) {g : HostId} {x : EntryId} :
    x ∈ (s.unqueued h e).queues.read g ↔ x ∈ s.queues.read g ∧ x ≠ e := by
  rw [unqueued_queue]
  split
  · next hg =>
    subst hg
    rw [(hq.nodup g).mem_erase_iff, and_comm]
  · next hg =>
    refine ⟨fun hx => ⟨hx, fun hxe => hg (hq.sole g h e (hxe ▸ hx) he)⟩, And.left⟩

theorem inUse_unqueued {x : EntryId} (hx : ((s.unqueued h e).entries.read x).inUse = true) : x ≠ e := fun hxe => by
  rw [hxe, unqueued_entry_self] at hx
  cases hx

theorem referred_unqueued (hr : s.Referred held) (hq : s.Queueing) (he : e ∈ s.queues.read h) :
    (s.unqueued h e).Referred ((s.entries.read e).message :: held) := by
  have hused := (hq.used e).2 ⟨h, he⟩
  have hof : ∀ k, (s.unqueued h e).entriesOf k + (if (s.entries.read e).message = k then 1 else 0) = s.entriesOf k :=
    fun k => by
      have hx := countIf_exchange (fun x hx => unqueued_entry_ne (h := h) (e := e) s hx)
        (fun x => x.inUse && x.message == k)
      rw [unqueued_entry_self, hused] at hx
      unfold State.entriesOf
      split
      · next hk => simpa [hk, Entry.free] using hx
      · next hk => simpa [beq_false_of_ne hk, Entry.free] using hx
  refine ⟨fun k hk => ?_, hr.pos, fun k hk => ?_, fun x hx => ?_, fun x hx => ?_, fun x hx => ?_, hr.vacant⟩
  · have hcount := hr.count k hk
    have hk' := hof k
    rw [List.count_cons]
    simp only [beq_iff_eq]
    show (s.messages.read k).refCount = _ + (if (s.messages.read k).state = .filling then 1 else 0) + _
    omega
  · obtain rfl | hk := List.mem_cons.1 hk
    · exact hr.live e hused
    · exact hr.held k hk
  · have hne := inUse_unqueued hx
    rw [unqueued_entry_ne s hne] at hx ⊢
    exact hr.live x hx
  · have hne := inUse_unqueued hx
    rw [unqueued_entry_ne s hne] at hx ⊢
    exact hr.within x hx
  · by_cases hxe : x = e
    · rw [hxe, unqueued_entry_self]
    · rw [unqueued_entry_ne s hxe] at hx ⊢
      exact hr.free x hx

theorem queueing_unqueued (hq : s.Queueing) (he : e ∈ s.queues.read h) : (s.unqueued h e).Queueing := by
  have hmem := fun g x => mem_unqueued_queue (g := g) (x := x) hq he
  have hsub : ∀ g, ((s.unqueued h e).queues.read g).Sublist (s.queues.read g) := fun g => by
    rw [unqueued_queue]
    split
    · next hg => rw [hg]; exact List.erase_sublist
    · exact .refl _
  refine ⟨fun g => (hq.nodup g).sublist (hsub g), fun f g x hf hg =>
    hq.sole f g x ((hmem f x).1 hf).1 ((hmem g x).1 hg).1, fun x => ?_, fun g => ?_, fun g x hx => ?_⟩
  · simp only [hmem]
    by_cases hxe : x = e
    · subst hxe
      rw [unqueued_entry_self]
      simp [Entry.free]
    · rw [unqueued_entry_ne s hxe, hq.used x]
      simp [hxe]
  · have hmap : ((s.unqueued h e).queues.read g).map (fun x => ((s.unqueued h e).entries.read x).message) =
        ((s.unqueued h e).queues.read g).map (fun x => (s.entries.read x).message) :=
      List.map_congr_left fun x hx => by rw [unqueued_entry_ne s ((hmem g x).1 hx).2]
    rw [hmap]
    exact (hq.apart g).sublist ((hsub g).map _)
  · have hxe := ((hmem g x).1 (List.mem_of_mem_tail hx)).2
    rw [unqueued_entry_ne s hxe]
    rw [unqueued_queue] at hx
    split at hx
    · next hg => exact hq.waiting g x (hg ▸ mem_tail_of_mem_tail_erase hx)
    · exact hq.waiting g x hx

theorem subscribing_unqueued (hs : s.Subscribing) (hq : s.Queueing) (he : e ∈ s.queues.read h) :
    (s.unqueued h e).Subscribing := by
  have hused := (hq.used e).2 ⟨h, he⟩
  have hsub : ∀ i, ((s.unqueued h e).subs.read i).state = (s.subs.read i).state
      ∧ ((s.unqueued h e).subs.read i).owner = (s.subs.read i).owner
      ∧ ((s.unqueued h e).subs.read i).channel = (s.subs.read i).channel := fun i => by
    rw [unqueued_sub]
    split <;> exact ⟨rfl, rfl, rfl⟩
  have hnaming : ∀ i, (s.unqueued h e).entriesNaming i + (if (s.entries.read e).subscription = some i then 1 else 0) =
      s.entriesNaming i := fun i => by
    have hx := countIf_exchange (fun x hx => unqueued_entry_ne (h := h) (e := e) s hx)
      (fun x => x.inUse && x.subscription == some i)
    rw [unqueued_entry_self, hused] at hx
    unfold State.entriesNaming
    split
    · next hk => simpa [hk, Entry.free] using hx
    · next hk => simpa [beq_false_of_ne hk, Entry.free] using hx
  refine ⟨fun c => ?_, fun i hi => ?_, fun i hi => ?_, fun g x hx i hi => ?_⟩
  · have hcount : (s.unqueued h e).subscribersOn c = s.subscribersOn c :=
      countIf_congr fun i => by rw [(hsub i).1, (hsub i).2.2]
    rw [hcount]
    exact hs.count c
  · rw [(hsub i).1] at hi
    rw [(hsub i).2.2]
    exact hs.opened i hi
  · rw [(hsub i).1] at hi
    have hold := hs.queued i hi
    have hnew := hnaming i
    rw [unqueued_sub]
    split
    · next hk =>
      rw [if_pos hk] at hnew
      dsimp only
      omega
    · next hk =>
      rw [if_neg hk] at hnew
      omega
  · obtain ⟨hmem, hxe⟩ := (mem_unqueued_queue hq he).1 hx
    rw [unqueued_entry_ne s hxe] at hi ⊢
    rw [(hsub i).1, (hsub i).2.1, (hsub i).2.2]
    exact hs.place g x hmem i hi

/-- An entry leaves its queue, and its reference is yet to be released; it is none that a read in flight answers from. -/
theorem delivering_unqueued (hd : s.Delivering held pend) (he : e ∈ s.queues.read h)
    (hfree : (s.entries.read e).state = .queued ∨ pend h = none) :
    (s.unqueued h e).Delivering ((s.entries.read e).message :: held) pend := by
  obtain ⟨hr, hq, hc, hs, hp⟩ := hd
  refine ⟨referred_unqueued hr hq he, queueing_unqueued hq he, ⟨hc.count, hc.place, hc.filling⟩,
    subscribing_unqueued hs hq he, hp.keep (fun _ _ hp => hp) fun g p x hpend _ hhead hopened => ?_⟩
  have hxe : x ≠ e := by
    rintro rfl
    obtain hfree | hfree := hfree
    · cases hfree.symm.trans hopened
    · rw [hq.sole g h x (List.mem_of_mem_head? hhead) he, hfree] at hpend
      cases hpend
  rw [unqueued_entry_ne s hxe, unqueued_queue]
  refine ⟨?_, hopened, rfl, le_rfl, id⟩
  split
  · next hg => exact head?_erase_of_ne (hg ▸ hhead) hxe
  · exact hhead

theorem delivering_removeEntry (hd : s.Delivering held pend) (he : e ∈ s.queues.read h)
    (hfree : (s.entries.read e).state = .queued ∨ pend h = none) : (removeEntry h e s).Delivering held pend := by
  rw [removeEntry_eq]
  exact delivering_release (delivering_unqueued hd he hfree)

/-- The entry of a FILLING message is not its last reference. -/
theorem fillsSame_removeEntry (hd : s.Delivering held pend) (he : e ∈ s.queues.read h) :
    FillsSame s (removeEntry h e s) := by
  refine .write (removeEntry_messages h e s) ?_
  split
  · next hzero =>
    have hused := (hd.queues.used e).2 ⟨h, he⟩
    have hnot : (s.messages.read (s.entries.read e).message).state ≠ .filling := fun hf => by
      have hcount := hd.refs.count _ (hd.refs.live e hused)
      have hpos : s.entriesOf (s.entries.read e).message ≠ 0 := fun h0 => (entriesOf_eq_zero_iff s _).1 h0 e hused rfl
      rw [if_pos hf] at hcount
      omega
    exact ⟨⟨nofun, fun hf => absurd hf hnot⟩, nofun⟩
  · exact ⟨Iff.rfl, fun _ => rfl⟩

theorem removeEntry_entries (h : HostId) (e : EntryId) (s : State) :
    (removeEntry h e s).entries = s.entries.write e Entry.free := by
  rw [removeEntry_eq, release_entries]
  rfl

theorem delivering_removeEntries {es : List EntryId} (hd : s.Delivering held pend) (hes : es.Nodup)
    (hmem : ∀ x ∈ es, x ∈ s.queues.read h)
    (hfree : pend h = none ∨ ∀ x ∈ es, (s.entries.read x).state = .queued) :
    (removeEntries h es s).Delivering held pend ∧ FillsSame s (removeEntries h es s) := by
  unfold removeEntries
  induction es generalizing s with
  | nil => exact ⟨hd, .refl s⟩
  | cons e es ih =>
    obtain ⟨he, hes⟩ := List.nodup_cons.1 hes
    have hne : ∀ x ∈ es, x ≠ e := fun x hx hxe => he (hxe ▸ hx)
    have he' := hmem e List.mem_cons_self
    refine (ih (delivering_removeEntry hd he' ?_) hes (fun x hx => ?_) ?_).imp_right (fillsSame_removeEntry hd he').trans
    · exact hfree.symm.imp (fun hq => hq e List.mem_cons_self) id
    · rw [removeEntry_queues, Table.read_write_self]
      exact (List.mem_erase_of_ne (hne x hx)).2 (hmem x (.tail e hx))
    · refine hfree.imp id fun hq x hx => ?_
      rw [removeEntry_entries, Table.read_write_ne _ _ (hne x hx)]
      exact hq x (.tail e hx)

end

end Sys2Proof.Machine
end

section
/-! SUPPORT. The laws of the deliveries through a message's matching moment and the freeing of a subscription (R45, R49,
R56, R89 to R93). -/

namespace Sys2Proof.Machine

variable {held : List MsgId} {pend : HostId → Option PendingResult} {s t : State}

/-! ## One delivery more (R93) -/

/-- A subscription that a message can be delivered by: it is live, its owner has the message in its queue not yet, and its
channel is the message's. -/
structure Targets (m : MsgId) (s : State) (h : HostId) (i : SubId) : Prop where
  used : (s.subs.read i).state ≠ .free
  owner : (s.subs.read i).owner = h
  channel : (s.subs.read i).channel = (s.messages.read m).channel
  absent : ∀ e ∈ s.queues.read h, (s.entries.read e).message ≠ m

section
variable {h : HostId} {m : MsgId} {i : SubId} {e : EntryId}

/-- The entry of a delivery (R93). -/
def Entry.fresh (m : MsgId) (i : SubId) : Entry :=
  { inUse := true, message := m, subscription := some i, offset := 0, state := .queued }

theorem appended_entry_self (s : State) : (s.appended h m i e).entries.read e = Entry.fresh m i :=
  Table.read_write_self _ _ _

theorem appended_entry_ne (s : State) {x : EntryId} (hx : x ≠ e) :
    (s.appended h m i e).entries.read x = s.entries.read x := Table.read_write_ne _ _ hx

theorem appended_queue (s : State) (g : HostId) :
    (s.appended h m i e).queues.read g = if g = h then s.queues.read h ++ [e] else s.queues.read g :=
  Table.read_write _ _ _ _

theorem appended_message (s : State) (k : MsgId) : (s.appended h m i e).messages.read k =
    if k = m then { s.messages.read m with refCount := (s.messages.read m).refCount + 1 } else s.messages.read k :=
  Table.read_write _ _ _ _

theorem appended_sub (s : State) (j : SubId) : (s.appended h m i e).subs.read j =
    if j = i then { s.subs.read i with queued := (s.subs.read i).queued + 1 } else s.subs.read j :=
  Table.read_write _ _ _ _

/-- A delivery changes of a message its count alone. -/
theorem appended_continues (s : State) (k : MsgId) :
    (s.messages.read k).Continues ((s.appended h m i e).messages.read k)
      ∧ ((s.appended h m i e).messages.read k).state = (s.messages.read k).state := by
  rw [appended_message]
  split
  · next hk => subst hk; exact ⟨⟨rfl, rfl, rfl, id, le_rfl, id⟩, rfl⟩
  · exact ⟨⟨rfl, rfl, rfl, id, le_rfl, id⟩, rfl⟩

theorem appended_place (s : State) (j : SubId) :
    ((s.appended h m i e).subs.read j).state = (s.subs.read j).state
      ∧ ((s.appended h m i e).subs.read j).owner = (s.subs.read j).owner
      ∧ ((s.appended h m i e).subs.read j).channel = (s.subs.read j).channel := by
  rw [appended_sub]
  split
  · next hj => subst hj; exact ⟨rfl, rfl, rfl⟩
  · exact ⟨rfl, rfl, rfl⟩

theorem notMem_queue_of_free (hq : s.Queueing) (he : (s.entries.read e).inUse = false) (g : HostId) :
    e ∉ s.queues.read g := fun hg => by
  rw [(hq.used e).2 ⟨g, hg⟩] at he
  cases he

theorem referred_appended (hr : s.Referred held) (hm : (s.messages.read m).isLive = true)
    (he : (s.entries.read e).inUse = false) : (s.appended h m i e).Referred held := by
  have hcont := fun k => (appended_continues (h := h) (m := m) (i := i) (e := e) s k).1
  have hstate := fun k => (appended_continues (h := h) (m := m) (i := i) (e := e) s k).2
  have hof : ∀ k, (s.appended h m i e).entriesOf k = s.entriesOf k + if m = k then 1 else 0 := fun k => by
    have hx := countIf_exchange (fun x hx => appended_entry_ne (h := h) (m := m) (i := i) (e := e) s hx)
      (fun x => x.inUse && x.message == k)
    rw [appended_entry_self, he] at hx
    unfold State.entriesOf
    split
    · next hk => simpa [hk, Entry.fresh] using hx
    · next hk => simpa [beq_false_of_ne hk, Entry.fresh] using hx
  refine ⟨fun k hk => ?_, fun k hk => ?_, fun k hk => ?_, fun x hx => ?_, fun x hx => ?_, fun x hx => ?_, fun k hk => ?_⟩
  · rw [(hcont k).live] at hk
    rw [hof, hstate]
    have hcount := hr.count k hk
    rw [appended_message]
    split
    · next hkm =>
      subst hkm
      rw [if_pos rfl]
      dsimp only
      omega
    · next hkm =>
      rw [if_neg (Ne.symm hkm)]
      omega
  · rw [(hcont k).live] at hk
    rw [appended_message]
    split
    · exact Nat.succ_ne_zero _
    · exact hr.pos k hk
  · rw [(hcont k).live]
    exact hr.held k hk
  · rw [(hcont _).live]
    by_cases hxe : x = e
    · rw [hxe, appended_entry_self]
      exact hm
    · rw [appended_entry_ne s hxe] at hx ⊢
      exact hr.live x hx
  · refine le_trans ?_ (hcont _).length
    by_cases hxe : x = e
    · rw [hxe, appended_entry_self]
      exact Nat.zero_le _
    · rw [appended_entry_ne s hxe] at hx ⊢
      exact hr.within x hx
  · by_cases hxe : x = e
    · rw [hxe, appended_entry_self] at hx
      cases hx
    · rw [appended_entry_ne s hxe] at hx ⊢
      exact hr.free x hx
  · rw [hstate] at hk
    rw [appended_message]
    split
    · next hkm => exact absurd (hkm ▸ hk) ((Message.isLive_iff _).1 hm)
    · exact hr.vacant k hk

theorem queueing_appended (hq : s.Queueing) (he : (s.entries.read e).inUse = false)
    (habsent : ∀ x ∈ s.queues.read h, (s.entries.read x).message ≠ m) : (s.appended h m i e).Queueing := by
  have hnot := notMem_queue_of_free hq he
  have hne : ∀ g x, x ∈ s.queues.read g → x ≠ e := fun g x hx hxe => hnot g (hxe ▸ hx)
  have hmem : ∀ g x, x ∈ (s.appended h m i e).queues.read g ↔ x ∈ s.queues.read g ∨ (g = h ∧ x = e) := fun g x => by
    rw [appended_queue]
    split
    · next hg => simp [hg]
    · next hg => simp [hg]
  have hmap : ∀ g, (s.queues.read g).map (fun x => ((s.appended h m i e).entries.read x).message) =
      (s.queues.read g).map (fun x => (s.entries.read x).message) := fun g =>
    List.map_congr_left fun x hx => by rw [appended_entry_ne s (hne g x hx)]
  refine ⟨fun g => ?_, fun f g x hf hg => ?_, fun x => ?_, fun g => ?_, fun g x hx => ?_⟩
  · rw [appended_queue]
    split
    · exact List.nodup_append.2 ⟨hq.nodup h, List.nodup_singleton e, fun a ha b hb => List.mem_singleton.1 hb ▸ hne h a ha⟩
    · exact hq.nodup g
  · rw [hmem] at hf hg
    obtain hf | ⟨hfh, hxe⟩ := hf
    · obtain hg | ⟨-, hxe⟩ := hg
      · exact hq.sole f g x hf hg
      · exact absurd hxe (hne f x hf)
    · obtain hg | ⟨hgh, -⟩ := hg
      · exact absurd hxe (hne g x hg)
      · rw [hfh, hgh]
  · simp only [hmem]
    by_cases hxe : x = e
    · rw [hxe, appended_entry_self]
      exact ⟨fun _ => ⟨h, .inr ⟨rfl, rfl⟩⟩, fun _ => rfl⟩
    · rw [appended_entry_ne s hxe, hq.used x]
      simp [hxe]
  · rw [appended_queue]
    split
    · rw [List.map_append, hmap, List.map_singleton, appended_entry_self]
      refine List.nodup_append.2 ⟨hq.apart h, List.nodup_singleton _, fun a ha b hb => ?_⟩
      obtain ⟨x, hx, rfl⟩ := List.mem_map.1 ha
      exact List.mem_singleton.1 hb ▸ habsent x hx
    · rw [hmap]
      exact hq.apart g
  · by_cases hxe : x = e
    · rw [hxe, appended_entry_self]
      rfl
    · rw [appended_entry_ne s hxe]
      rw [appended_queue] at hx
      split at hx
      · next hg =>
        refine hq.waiting h x ?_
        cases hql : s.queues.read h with
        | nil => simp [hql] at hx
        | cons a l => simpa [hql, hxe] using hx
      · exact hq.waiting g x hx

theorem populated_appended (hc : s.Populated) : (s.appended h m i e).Populated := by
  have hcont := fun k => (appended_continues (h := h) (m := m) (i := i) (e := e) s k).1
  refine ⟨fun c => ?_, fun k hk => ?_, fun k hk => ?_⟩
  · have hlive : (s.appended h m i e).liveOn c = s.liveOn c := countIf_congr fun k => by rw [(hcont k).live, (hcont k).channel]
    rw [hlive]
    exact hc.count c
  · rw [(hcont k).live] at hk
    rw [(hcont k).channel, (hcont k).key]
    exact hc.place k hk
  · rw [(hcont k).channel]
    exact hc.filling k ((hcont k).filling hk)

theorem subscribing_appended (hs : s.Subscribing) (hq : s.Queueing) (he : (s.entries.read e).inUse = false)
    (ht : Targets m s h i) : (s.appended h m i e).Subscribing := by
  have hcont := fun k => (appended_continues (h := h) (m := m) (i := i) (e := e) s k).1
  have hplace := appended_place (h := h) (m := m) (i := i) (e := e) s
  have hnaming : ∀ j, (s.appended h m i e).entriesNaming j = s.entriesNaming j + if i = j then 1 else 0 := fun j => by
    have hx := countIf_exchange (fun x hx => appended_entry_ne (h := h) (m := m) (i := i) (e := e) s hx)
      (fun x => x.inUse && x.subscription == some j)
    rw [appended_entry_self, he] at hx
    unfold State.entriesNaming
    split
    · next hj => simpa [hj, Entry.fresh] using hx
    · next hj => simpa [beq_false_of_ne hj, Entry.fresh] using hx
  refine ⟨fun c => ?_, fun j hj => ?_, fun j hj => ?_, fun g x hx j hj => ?_⟩
  · have hcount : (s.appended h m i e).subscribersOn c = s.subscribersOn c :=
      countIf_congr fun j => by rw [(hplace j).1, (hplace j).2.2]
    rw [hcount]
    exact hs.count c
  · rw [(hplace j).1] at hj
    rw [(hplace j).2.2]
    exact hs.opened j hj
  · rw [(hplace j).1] at hj
    have hold := hs.queued j hj
    rw [hnaming, appended_sub]
    split
    · next hji =>
      rw [hji] at hold ⊢
      rw [if_pos rfl]
      dsimp only
      omega
    · next hji =>
      rw [if_neg (Ne.symm hji)]
      omega
  · rw [(hplace j).1, (hplace j).2.1, (hplace j).2.2, (hcont _).channel]
    by_cases hxe : x = e
    · rw [hxe, appended_entry_self] at hj ⊢
      obtain rfl := Option.some.inj hj
      rw [appended_queue] at hx
      split at hx
      · next hg => exact ⟨ht.used, ht.owner.trans hg.symm, ht.channel⟩
      · exact absurd (hxe ▸ hx) (notMem_queue_of_free hq he g)
    · rw [appended_entry_ne s hxe] at hj ⊢
      refine hs.place g x ?_ j hj
      rw [appended_queue] at hx
      split at hx
      · next hg => simpa [hg, hxe] using hx
      · exact hx

theorem delivering_appendEntry (hd : s.Delivering held pend) (hm : (s.messages.read m).isLive = true)
    (he : (s.entries.read e).inUse = false) (ht : Targets m s h i) :
    (appendEntry h m i e s).Delivering held pend := by
  obtain ⟨hr, hq, hc, hs, hp⟩ := hd
  rw [appendEntry_eq]
  refine ⟨referred_appended hr hm he, queueing_appended hq he ht.absent, populated_appended hc,
    subscribing_appended hs hq he ht, hp.keep (fun _ _ hp => hp) fun g p x _ _ hhead hopened => ?_⟩
  have hxe : x ≠ e := fun hxe => notMem_queue_of_free hq he g (hxe ▸ List.mem_of_mem_head? hhead)
  obtain ⟨hcont, -⟩ := appended_continues (h := h) (m := m) (i := i) (e := e) s (s.entries.read x).message
  rw [appended_entry_ne s hxe, appended_queue]
  refine ⟨?_, hopened, rfl, hcont.length, hcont.seals⟩
  split
  · next hg =>
    subst hg
    rw [List.head?_append, hhead]
    rfl
  · exact hhead

end

end Sys2Proof.Machine
end

section
/-! SUPPORT. The laws of the deliveries through a message's matching moment and the freeing of a subscription (R45, R49,
R56, R89 to R93). -/

namespace Sys2Proof.Machine

variable {held : List MsgId} {pend : HostId → Option PendingResult} {s t u : State}

/-! ## A message's deliveries, host by host (R56, R89) -/

/-- What a delivery of `m` to one host leaves alone, so that the next can take place. -/
structure Spares (g : HostId) (m : MsgId) (s t : State) : Prop where
  queue : ∀ h, h ≠ g → t.queues.read h = s.queues.read h
  entry : ∀ h, h ≠ g → ∀ x ∈ s.queues.read h, t.entries.read x = s.entries.read x
  sub : ∀ j, (t.subs.read j).state = (s.subs.read j).state ∧ (t.subs.read j).owner = (s.subs.read j).owner
    ∧ (t.subs.read j).channel = (s.subs.read j).channel
  live : (t.messages.read m).isLive = (s.messages.read m).isLive
  channel : (t.messages.read m).channel = (s.messages.read m).channel
  fills : FillsSame s t

theorem Spares.trans {g : HostId} {m : MsgId} (hst : Spares g m s t) (htu : Spares g m t u) : Spares g m s u where
  queue h hg := (htu.queue h hg).trans (hst.queue h hg)
  entry h hg x hx := (htu.entry h hg x (hst.queue h hg ▸ hx)).trans (hst.entry h hg x hx)
  sub j := ⟨(htu.sub j).1.trans (hst.sub j).1, (htu.sub j).2.1.trans (hst.sub j).2.1, (htu.sub j).2.2.trans (hst.sub j).2.2⟩
  live := htu.live.trans hst.live
  channel := htu.channel.trans hst.channel
  fills := hst.fills.trans htu.fills

/-- A delivery to one host leaves the others' as they were to be. -/
theorem Spares.targets {g h : HostId} {m : MsgId} {i : SubId} (hst : Spares g m s t) (hne : h ≠ g)
    (ht : Targets m s h i) : Targets m t h i where
  used := (hst.sub i).1 ▸ ht.used
  owner := (hst.sub i).2.1.trans ht.owner
  channel := by rw [(hst.sub i).2.2, hst.channel]; exact ht.channel
  absent x hx := by
    rw [hst.queue h hne] at hx
    rw [hst.entry h hne x hx]
    exact ht.absent x hx

section
variable {h : HostId} {m : MsgId} {i : SubId} {e : EntryId}

theorem spares_appendEntry (hq : s.Queueing) (he : (s.entries.read e).inUse = false) :
    Spares h m s (appendEntry h m i e s) := by
  have hcont := appended_continues (h := h) (m := m) (i := i) (e := e) s m
  rw [appendEntry_eq]
  refine ⟨fun g hg => ?_, fun g _ x hx => ?_, appended_place s, hcont.1.live, hcont.1.channel,
    .write rfl ⟨Iff.rfl, fun _ => rfl⟩⟩
  · rw [appended_queue, if_neg hg]
  · exact appended_entry_ne s fun hxe => notMem_queue_of_free hq he g (hxe ▸ hx)

theorem release_message_ne {k : MsgId} (hk : k ≠ m) : (release m s).messages.read k = s.messages.read k := by
  rw [release_messages, Table.read_write_ne _ _ hk]

theorem removeEntry_message_ne {k : MsgId} (hk : k ≠ (s.entries.read e).message) :
    (removeEntry h e s).messages.read k = s.messages.read k := by
  rw [removeEntry_eq]
  exact release_message_ne hk

theorem removeEntry_place (h : HostId) (e : EntryId) (s : State) (j : SubId) :
    ((removeEntry h e s).subs.read j).state = (s.subs.read j).state
      ∧ ((removeEntry h e s).subs.read j).owner = (s.subs.read j).owner
      ∧ ((removeEntry h e s).subs.read j).channel = (s.subs.read j).channel := by
  rw [removeEntry_eq, release_subs, unqueued_sub]
  split <;> exact ⟨rfl, rfl, rfl⟩

theorem spares_removeEntry (hd : s.Delivering held pend) (he : e ∈ s.queues.read h) (hm : (s.entries.read e).message ≠ m) :
    Spares h m s (removeEntry h e s) := by
  have hsame : (removeEntry h e s).messages.read m = s.messages.read m := removeEntry_message_ne hm.symm
  refine ⟨fun g hg => ?_, fun g hg x hx => ?_, removeEntry_place h e s, by rw [hsame], by rw [hsame],
    fillsSame_removeEntry hd he⟩
  · rw [removeEntry_queues, Table.read_write_ne _ _ hg]
  · rw [removeEntry_entries, Table.read_write_ne]
    exact fun hxe => hg (hd.queues.sole g h e (hxe ▸ hx) he)

theorem spares_reportDrop (n : Notice) (s : State) : Spares h m s (reportDrop h n s) :=
  ⟨fun _ _ => by simp, fun _ _ _ _ => by simp, fun _ => by simp, by simp, by simp, .of_eq (by simp)⟩

theorem delivering_reportDrop (hd : s.Delivering held pend) (h : HostId) (n : Notice) :
    (reportDrop h n s).Delivering held pend := hd.congr (by simp) (by simp) (by simp) (by simp) (by simp)

/-- A message is delivered to one host, or dropped for it (R89 to R93). -/
theorem delivering_deliver (hd : s.Delivering held pend) (hm : (s.messages.read m).isLive = true)
    (ht : Targets m s h i) : (deliver m h i s).Delivering held pend ∧ Spares h m s (deliver m h i s) := by
  obtain ⟨-, e, he, ho⟩ | ⟨n, ho⟩ | ⟨-, -, e, he, ho⟩ := deliver_cases m h i s <;> rw [ho]
  · have hfree := ((freshEntry_eq_some_iff s e).1 he).1
    exact ⟨delivering_appendEntry hd hm hfree ht, spares_appendEntry hd.queues hfree⟩
  · exact ⟨delivering_reportDrop hd h n, spares_reportDrop n s⟩
  · have hmem := List.mem_of_mem_head? he
    simp only [State.queuedOf, List.mem_filter, Bool.and_eq_true, beq_iff_eq] at hmem
    obtain ⟨hqueue, hqueued, -⟩ := hmem
    have hother := ht.absent e hqueue
    let n := dropNotice i (s.messages.read (s.entries.read e).message) .displaced
    let r := reportDrop h n (removeEntry h e s)
    have hr : r.Delivering held pend := delivering_reportDrop (delivering_removeEntry hd hqueue (.inl hqueued)) h n
    have hspare : Spares h m s r := (spares_removeEntry hd hqueue hother).trans (spares_reportDrop n _)
    have hfree : (r.entries.read e).inUse = false := by
      simp only [r, reportDrop_frame, removeEntry_entries, Table.read_write_self]
      rfl
    have ht' : Targets m r h i := by
      refine ⟨(hspare.sub i).1 ▸ ht.used, (hspare.sub i).2.1.trans ht.owner, ?_, fun x hx => ?_⟩
      · rw [(hspare.sub i).2.2, hspare.channel]
        exact ht.channel
      · simp only [r, reportDrop_frame, removeEntry_queues, Table.read_write_self] at hx
        obtain ⟨hne, hx⟩ := ((hd.queues.nodup h).mem_erase_iff).1 hx
        simp only [r, reportDrop_frame, removeEntry_entries]
        rw [Table.read_write_ne _ _ hne]
        exact ht.absent x hx
    rw [displace]
    exact ⟨delivering_appendEntry hr (hspare.live.trans hm) hfree ht',
      hspare.trans (spares_appendEntry hr.queues hfree)⟩

/-- A message's deliveries: hosts one after another, none of which has it yet. -/
theorem delivering_foldl_deliver {l : List (HostId × SubId)} (hd : s.Delivering held pend)
    (hm : (s.messages.read m).isLive = true) (hl : (l.map Prod.fst).Nodup) (ht : ∀ p ∈ l, Targets m s p.1 p.2) :
    (l.foldl (fun s p => deliver m p.1 p.2 s) s).Delivering held pend
      ∧ FillsSame s (l.foldl (fun s p => deliver m p.1 p.2 s) s) := by
  induction l generalizing s with
  | nil => exact ⟨hd, .refl s⟩
  | cons p l ih =>
    obtain ⟨hp, hl⟩ := List.nodup_cons.1 hl
    obtain ⟨hd', hspare⟩ := delivering_deliver hd hm (ht p List.mem_cons_self)
    obtain ⟨hfinal, hfills⟩ := ih hd' (hspare.live.trans hm) hl fun q hq =>
      hspare.targets (fun he => hp (he ▸ List.mem_map_of_mem hq)) (ht q (.tail p hq))
    exact ⟨hfinal, hspare.fills.trans hfills⟩

theorem Subscription.passes_channel {x : Subscription} {y : Message} (hx : x.passes y = true) : x.channel = y.channel := by
  unfold Subscription.passes at hx
  simp only [Bool.and_eq_true, beq_iff_eq, and_assoc] at hx
  exact hx.2.1

theorem delivering_createDeliveries (hd : s.Delivering held pend) (hm : (s.messages.read m).isLive = true)
    (hnone : s.entriesOf m = 0) : (createDeliveries m s).Delivering held pend
      ∧ FillsSame s (createDeliveries m s) := by
  unfold createDeliveries
  refine delivering_foldl_deliver hd hm ((targets_ascend s m).imp fun hlt => ne_of_lt hlt) fun (h, i) hp => ?_
  obtain ⟨⟨howns, hpass⟩, -⟩ := (carrier_eq_some_iff s _ h i).1 ((mem_targets s m h i).1 hp)
  exact ⟨by simp [Subscription.passes_active hpass], howns, Subscription.passes_channel hpass, fun e he =>
    (entriesOf_eq_zero_iff s m).1 hnone e ((hd.queues.used e).2 ⟨h, he⟩)⟩

end

/-! ## The freeing of a subscription (R45, R49) -/

theorem Entry.forget_eq (i : SubId) (x : Entry) :
    (x.forget i).inUse = x.inUse ∧ (x.forget i).message = x.message ∧ (x.forget i).offset = x.offset
      ∧ (x.forget i).state = x.state
      ∧ (x.forget i).subscription = if x.subscription = some i then none else x.subscription := by
  unfold Entry.forget
  split <;> simp_all

section
variable {i : SubId}

theorem freeSubscription_entry (s : State) (x : EntryId) :
    (freeSubscription i s).entries.read x = (s.entries.read x).forget i := Table.read_mapAll _ _ _

theorem freeSubscription_sub (s : State) (j : SubId) :
    (freeSubscription i s).subs.read j = if j = i then Subscription.free else s.subs.read j := Table.read_write _ _ _ _

theorem freeSubscription_channel (s : State) (c : ChanId) :
    (freeSubscription i s).channels.read c = if c = (s.subs.read i).channel
      then { s.channels.read c with subscriberCount := (s.channels.read c).subscriberCount - 1 }
      else s.channels.read c := by
  refine (Table.read_update _ _ _ _).trans ?_
  split
  · next hc => rw [hc]
  · rfl

/-- Entries that differ in their subscription alone. -/
theorem referred_of_entries (hr : s.Referred held) (hm : t.messages = s.messages)
    (hx : ∀ x, (t.entries.read x).inUse = (s.entries.read x).inUse ∧ (t.entries.read x).message = (s.entries.read x).message)
    (hoffset : ∀ x, (s.entries.read x).inUse = true →
      (t.entries.read x).offset ≤ (s.messages.read (s.entries.read x).message).length)
    (hfree : ∀ x, (s.entries.read x).inUse = false → t.entries.read x = Entry.free) : t.Referred held := by
  have hof : t.entriesOf = s.entriesOf := funext fun m => countIf_congr fun x => by rw [(hx x).1, (hx x).2]
  refine ⟨by rw [hm, hof]; exact hr.count, by rw [hm]; exact hr.pos, by rw [hm]; exact hr.held, fun x hu => ?_,
    fun x hu => ?_, fun x hu => hfree x ((hx x).1 ▸ hu), by rw [hm]; exact hr.vacant⟩
  · rw [(hx x).1] at hu
    rw [hm, (hx x).2]
    exact hr.live x hu
  · rw [(hx x).1] at hu
    rw [hm, (hx x).2]
    exact hoffset x hu

theorem queueing_of_entries (hq : s.Queueing) (hqueues : t.queues = s.queues)
    (hx : ∀ x, (t.entries.read x).inUse = (s.entries.read x).inUse ∧ (t.entries.read x).message = (s.entries.read x).message)
    (hstate : ∀ h, ∀ x ∈ (s.queues.read h).tail, (t.entries.read x).state = .queued) : t.Queueing := by
  refine ⟨by rw [hqueues]; exact hq.nodup, by rw [hqueues]; exact hq.sole, fun x => ?_, fun h => ?_, fun h x hmem => ?_⟩
  · rw [hqueues, (hx x).1]
    exact hq.used x
  · have hmap : (s.queues.read h).map (fun x => (t.entries.read x).message) =
        (s.queues.read h).map (fun x => (s.entries.read x).message) :=
      List.map_congr_left fun x _ => (hx x).2
    rw [hqueues, hmap]
    exact hq.apart h
  · rw [hqueues] at hmem
    exact hstate h x hmem

theorem subscribing_freeSubscription (hs : s.Subscribing) (hi : (s.subs.read i).state ≠ .free) :
    (freeSubscription i s).Subscribing := by
  have hne : ∀ j, ((freeSubscription i s).subs.read j).state ≠ .free → j ≠ i := fun j hj hji => by
    rw [freeSubscription_sub, if_pos hji] at hj
    exact hj rfl
  refine ⟨fun c => ?_, fun j hj => ?_, fun j hj => ?_, fun h x hx j hj => ?_⟩
  · have hcount : (freeSubscription i s).subscribersOn c + (if (s.subs.read i).channel = c then 1 else 0) =
        s.subscribersOn c := by
      have hx := countIf_exchange (t := s.subs) (u := (freeSubscription i s).subs) (m := i)
        (fun j hj => by rw [freeSubscription_sub, if_neg hj]) (fun x => x.state != .free && x.channel == c)
      rw [freeSubscription_sub, if_pos rfl] at hx
      unfold State.subscribersOn
      split
      · next hc => simpa [bne_iff_ne.2 hi, hc, Subscription.free] using hx
      · next hc => simpa [beq_false_of_ne hc, Subscription.free] using hx
    have hold := hs.count c
    rw [freeSubscription_channel]
    split
    · next hc =>
      rw [if_pos hc.symm] at hcount
      dsimp only
      omega
    · next hc =>
      rw [if_neg (Ne.symm hc)] at hcount
      omega
  · have hji := hne j hj
    rw [freeSubscription_sub, if_neg hji] at hj ⊢
    rw [freeSubscription_channel]
    split <;> exact hs.opened j hj
  · have hji := hne j hj
    have hnaming : (freeSubscription i s).entriesNaming j = s.entriesNaming j := countIf_congr fun x => by
      rw [freeSubscription_entry]
      obtain ⟨huse, -, -, -, hname⟩ := Entry.forget_eq i (s.entries.read x)
      rw [huse, hname]
      split
      · next hx => simp [hx, Ne.symm hji]
      · rfl
    rw [freeSubscription_sub, if_neg hji] at hj ⊢
    rw [hnaming]
    exact hs.queued j hj
  · rw [freeSubscription_entry] at hj ⊢
    obtain ⟨-, hmsg, -, -, hname⟩ := Entry.forget_eq i (s.entries.read x)
    rw [hname] at hj
    split at hj
    · cases hj
    · next hx' =>
      have hji : j ≠ i := fun he => hx' (he ▸ hj)
      rw [freeSubscription_sub, if_neg hji, hmsg]
      exact hs.place h x hx j hj

theorem delivering_freeSubscription (hd : s.Delivering held pend) (hi : (s.subs.read i).state ≠ .free) :
    (freeSubscription i s).Delivering held pend := by
  obtain ⟨hr, hq, hc, hs, hp⟩ := hd
  have hforget := fun x => Entry.forget_eq i (s.entries.read x)
  have hsame : ∀ x, ((freeSubscription i s).entries.read x).inUse = (s.entries.read x).inUse
      ∧ ((freeSubscription i s).entries.read x).message = (s.entries.read x).message := fun x => by
    rw [freeSubscription_entry]
    exact ⟨(hforget x).1, (hforget x).2.1⟩
  refine ⟨referred_of_entries hr rfl hsame (fun x hx => ?_) (fun x hx => ?_),
    queueing_of_entries hq rfl hsame fun h x hx => ?_, ⟨fun c => ?_, fun m hm => ?_, fun m hm => ?_⟩,
    subscribing_freeSubscription hs hi, hp.keep (fun _ _ hp => hp) fun h p x _ _ hhead hopened => ?_⟩
  · rw [freeSubscription_entry, (hforget x).2.2.1]
    exact hr.within x hx
  · rw [freeSubscription_entry, hr.free x hx]
    rfl
  · rw [freeSubscription_entry, (hforget x).2.2.2.1]
    exact hq.waiting h x hx
  · rw [freeSubscription_channel]
    split <;> exact hc.count c
  · rw [freeSubscription_channel]
    split <;> exact hc.place m hm
  · rw [freeSubscription_channel]
    split <;> exact hc.filling m hm
  · rw [freeSubscription_entry, (hforget x).2.1, (hforget x).2.2.1, (hforget x).2.2.2.1]
    exact ⟨hhead, hopened, rfl, le_rfl, id⟩

end

end Sys2Proof.Machine
end

section
/-! SUPPORT. The laws of the deliveries through the requests: a message that begins or grows, a channel that opens or closes,
a subscription made or resting, an entry opened and read on (R32 to R37, R46, R64, R69, R100 to R102). -/

namespace Sys2Proof.Machine

variable {held : List MsgId} {pend pend' : HostId → Option PendingResult} {s t u : State}

theorem referred_congr (hr : s.Referred held) (hm : t.messages = s.messages) (he : t.entries = s.entries) :
    t.Referred held :=
  referred_of_entries hr hm (fun _ => by rw [he]; exact ⟨rfl, rfl⟩) (fun x hx => by rw [he]; exact hr.within x hx)
    fun x hx => by rw [he]; exact hr.free x hx

theorem reading_congr (hp : s.Reading pend) (hm : t.messages = s.messages) (he : t.entries = s.entries)
    (hq : t.queues = s.queues) : t.Reading pend :=
  hp.keep (fun _ _ hp => hp) fun _ _ _ _ _ hhead hopened => by
    rw [hm, he, hq]
    exact ⟨hhead, hopened, rfl, le_rfl, id⟩

/-- The subscriptions answer for channels that keep their state and their count. -/
theorem subscribing_congr (hs' : s.Subscribing) (hm : t.messages = s.messages) (hs : t.subs = s.subs)
    (he : t.entries = s.entries) (hq : t.queues = s.queues)
    (hcount : ∀ c, (t.channels.read c).subscriberCount = s.subscribersOn c)
    (hopened : ∀ i, (s.subs.read i).state ≠ .free → (t.channels.read (s.subs.read i).channel).state = .opened) :
    t.Subscribing := by
  refine ⟨fun c => ?_, by rw [hs]; exact hopened, fun i hi => ?_, by rw [hq, he, hs, hm]; exact hs'.place⟩
  · rw [State.subscribersOn, hs]
    exact hcount c
  · rw [hs] at hi ⊢
    rw [State.entriesNaming, he]
    exact hs'.queued i hi

/-! ## Channels -/

/-- One channel rewritten: it must answer for its messages and its subscriptions. -/
theorem delivering_channel {c : ChanId} {y : Channel} (hd : s.Delivering held pend) (hcount : y.liveCount = s.liveOn c)
    (hsubs : y.subscriberCount = s.subscribersOn c)
    (hplace : ∀ m, (s.messages.read m).isLive = true → (s.messages.read m).channel = c →
      y.state ≠ .closed ∧ y.key = (s.messages.read m).key)
    (hfilling : ∀ m, (s.messages.read m).state = .filling → (s.messages.read m).channel = c → y.state = .opened)
    (hopened : ∀ i, (s.subs.read i).state ≠ .free → (s.subs.read i).channel = c → y.state = .opened)
    (hc : t.channels = s.channels.write c y) (hm : t.messages = s.messages) (hs : t.subs = s.subs)
    (he : t.entries = s.entries) (hq : t.queues = s.queues) : t.Delivering held pend := by
  have hread : ∀ d, t.channels.read d = if d = c then y else s.channels.read d := fun d => by rw [hc, Table.read_write]
  refine ⟨referred_congr hd.refs hm he, queueing_congr hd.queues he hq, ⟨fun d => ?_, fun m hl => ?_, fun m hl => ?_⟩,
    subscribing_congr hd.subs hm hs he hq (fun d => ?_) fun i hi => ?_, reading_congr hd.reads hm he hq⟩
  · rw [hread, State.liveOn, hm]
    split
    · next hdc => rw [hdc]; exact hcount
    · exact hd.channels.count d
  · rw [hm] at hl ⊢
    rw [hread]
    split
    · next hdc => exact hplace m hl hdc
    · exact hd.channels.place m hl
  · rw [hm] at hl ⊢
    rw [hread]
    split
    · next hdc => exact hfilling m hl hdc
    · exact hd.channels.filling m hl
  · rw [hread]
    split
    · next hdc => rw [hdc]; exact hsubs
    · exact hd.subs.count d
  · rw [hread]
    split
    · next hdc => exact hopened i hi hdc
    · exact hd.subs.opened i hi

/-- Channels rewritten in what no law of the deliveries reads. -/
theorem delivering_channels (hd : s.Delivering held pend)
    (hc : ∀ c, (t.channels.read c).state = (s.channels.read c).state ∧ (t.channels.read c).key = (s.channels.read c).key
      ∧ (t.channels.read c).liveCount = (s.channels.read c).liveCount
      ∧ (t.channels.read c).subscriberCount = (s.channels.read c).subscriberCount)
    (hm : t.messages = s.messages) (hs : t.subs = s.subs) (he : t.entries = s.entries) (hq : t.queues = s.queues) :
    t.Delivering held pend := by
  refine ⟨referred_congr hd.refs hm he, queueing_congr hd.queues he hq, ⟨fun c => ?_, fun m hl => ?_, fun m hl => ?_⟩,
    subscribing_congr hd.subs hm hs he hq (fun c => (hc c).2.2.2.trans (hd.subs.count c))
      fun i hi => (hc _).1.trans (hd.subs.opened i hi), reading_congr hd.reads hm he hq⟩
  · rw [(hc c).2.2.1, State.liveOn, hm]
    exact hd.channels.count c
  · rw [hm] at hl ⊢
    rw [(hc _).1, (hc _).2.1]
    exact hd.channels.place m hl
  · rw [hm] at hl ⊢
    rw [(hc _).1]
    exact hd.channels.filling m hl

theorem liveOn_eq_zero_iff (s : State) (c : ChanId) :
    s.liveOn c = 0 ↔ ∀ m, (s.messages.read m).isLive = true → (s.messages.read m).channel ≠ c := by
  rw [State.liveOn, countIf_eq_zero_iff]
  simp

theorem subscribersOn_eq_zero_iff (s : State) (c : ChanId) :
    s.subscribersOn c = 0 ↔ ∀ i, (s.subs.read i).state ≠ .free → (s.subs.read i).channel ≠ c := by
  rw [State.subscribersOn, countIf_eq_zero_iff]
  simp

/-- A CLOSED slot opens (R32). -/
theorem delivering_openedChannel {i : ChanId} (hd : s.Delivering held pend) (h : HostId) (r : Request) (mode : Mode)
    (hi : (s.channels.read i).state = .closed) :
    (s.modChannel i fun _ => openedChannel h r mode).Delivering held pend := by
  have hlive : ∀ m, (s.messages.read m).isLive = true → (s.messages.read m).channel ≠ i := fun m hm he =>
    (hd.channels.place m hm).1 (he ▸ hi)
  have hsub : ∀ j, (s.subs.read j).state ≠ .free → (s.subs.read j).channel ≠ i := fun j hj he => by
    have ho := hd.subs.opened j hj
    rw [he, hi] at ho
    cases ho
  exact delivering_channel hd ((liveOn_eq_zero_iff s i).2 hlive).symm ((subscribersOn_eq_zero_iff s i).2 hsub).symm
    (fun m hm he => absurd he (hlive m hm)) (fun m hm he => absurd he (hlive m (Message.isLive_of_filling hm)))
    (fun j hj he => absurd he (hsub j hj)) rfl rfl rfl rfl rfl

/-! ## Messages -/

theorem message_ne_of_used {m : MsgId} (hr : s.Referred held) (hm : (s.messages.read m).state = .vacant) {e : EntryId}
    (he : (s.entries.read e).inUse = true) : (s.entries.read e).message ≠ m := fun hem =>
  (Message.isLive_iff _).1 (hr.live e he) (hem ▸ hm)

section
variable {m : MsgId} {i : ChanId} {h : HostId} {r : Request}

/-- The tables once BEGIN has made its record, before any delivery (R64). -/
def State.begun (s : State) (h : HostId) (r : Request) (i : ChanId) (m : MsgId) : State :=
  (s.modMessage m (fun _ => newMessage h r i (s.channels.read i))).modChannel i
    (fun x => { x with nextSequence := x.nextSequence + 1, liveCount := x.liveCount + 1 })

theorem begun_message (s : State) (k : MsgId) : (s.begun h r i m).messages.read k =
    if k = m then newMessage h r i (s.channels.read i) else s.messages.read k := Table.read_update _ _ _ _

theorem begun_channel (s : State) (c : ChanId) : (s.begun h r i m).channels.read c = if c = i
    then { s.channels.read c with
      nextSequence := (s.channels.read c).nextSequence + 1, liveCount := (s.channels.read c).liveCount + 1 }
    else s.channels.read c := by
  refine (Table.read_update _ _ _ _).trans ?_
  split
  · next hc => rw [hc]; rfl
  · rfl

theorem begun_channel_kept (s : State) (c : ChanId) :
    ((s.begun h r i m).channels.read c).state = (s.channels.read c).state
      ∧ ((s.begun h r i m).channels.read c).key = (s.channels.read c).key
      ∧ ((s.begun h r i m).channels.read c).subscriberCount = (s.channels.read c).subscriberCount := by
  rw [begun_channel]
  split <;> exact ⟨rfl, rfl, rfl⟩

theorem delivering_begun (hd : s.Delivering held pend) (hm : (s.messages.read m).state = .vacant)
    (hi : (s.channels.read i).state = .opened) :
    (s.begun h r i m).Delivering held pend ∧ (s.begun h r i m).entriesOf m = 0 := by
  obtain ⟨hr, hq, hc, hs, hp⟩ := hd
  have hself : (s.begun h r i m).messages.read m = newMessage h r i (s.channels.read i) := by rw [begun_message, if_pos rfl]
  have hother : ∀ k, k ≠ m → (s.begun h r i m).messages.read k = s.messages.read k := fun k hk => by
    rw [begun_message, if_neg hk]
  have hkept := begun_channel_kept (h := h) (r := r) (i := i) (m := m) s
  have hentry : ∀ e, (s.entries.read e).inUse = true →
      (s.begun h r i m).messages.read (s.entries.read e).message = s.messages.read (s.entries.read e).message :=
    fun e he => hother _ (message_ne_of_used hr hm he)
  have hnone : s.entriesOf m = 0 := (entriesOf_eq_zero_iff s m).2 fun e he => message_ne_of_used hr hm he
  have hnotheld : ∀ k ∈ held, k ≠ m := fun k hk he => (Message.isLive_iff _).1 (hr.held k hk) (he ▸ hm)
  have hlive : ∀ c, (s.begun h r i m).liveOn c = s.liveOn c + if i = c then 1 else 0 := fun c => by
    have hx := countIf_exchange hother (fun x => x.isLive && x.channel == c)
    have hnew : (newMessage h r i (s.channels.read i)).isLive = true := rfl
    have hchannel : (newMessage h r i (s.channels.read i)).channel = i := rfl
    rw [hself, (Message.isLive_eq_false_iff _).2 hm, hnew, hchannel] at hx
    unfold State.liveOn
    split
    · next hc => simpa [hc] using hx
    · next hc => simpa [beq_false_of_ne hc] using hx
  refine ⟨⟨⟨fun k hk => ?_, fun k hk => ?_, fun k hk => ?_, fun e he => ?_, fun e he => ?_, hr.free, fun k hk => ?_⟩,
    queueing_congr hq rfl rfl, ⟨fun c => ?_, fun k hk => ?_, fun k hk => ?_⟩,
    ⟨fun c => (hkept c).2.2.trans (hs.count c), fun j hj => (hkept _).1.trans (hs.opened j hj), hs.queued,
      fun g e he j hj => ?_⟩,
    hp.keep (fun _ _ hp => hp) fun g p e _ _ hhead hopened => ?_⟩, hnone⟩
  · by_cases hkm : k = m
    · subst hkm
      rw [hself, List.count_eq_zero_of_not_mem fun hk => hnotheld k hk rfl]
      exact (congrArg (· + 1 + 0) hnone).symm
    · rw [hother k hkm] at hk ⊢
      exact hr.count k hk
  · by_cases hkm : k = m
    · rw [hkm, hself]
      exact Nat.one_ne_zero
    · rw [hother k hkm] at hk ⊢
      exact hr.pos k hk
  · rw [hother k (hnotheld k hk)]
    exact hr.held k hk
  · exact (congrArg Message.isLive (hentry e he)).trans (hr.live e he)
  · exact (hr.within e he).trans (congrArg Message.length (hentry e he)).ge
  · by_cases hkm : k = m
    · rw [hkm, hself] at hk
      cases hk
    · rw [hother k hkm] at hk ⊢
      exact hr.vacant k hk
  · have hold := hc.count c
    rw [hlive, begun_channel]
    split
    · next hci =>
      rw [if_pos hci.symm]
      dsimp only
      omega
    · next hci =>
      rw [if_neg (Ne.symm hci)]
      exact hold
  · rw [(hkept _).1, (hkept _).2.1]
    by_cases hkm : k = m
    · rw [hkm, hself]
      exact ⟨by show (s.channels.read i).state ≠ _; rw [hi]; nofun, rfl⟩
    · rw [hother k hkm] at hk ⊢
      exact hc.place k hk
  · rw [(hkept _).1]
    by_cases hkm : k = m
    · rw [hkm, hself]
      exact hi
    · rw [hother k hkm] at hk ⊢
      exact hc.filling k hk
  · have hmsg := hentry e ((hq.used e).2 ⟨g, he⟩)
    obtain ⟨a, b, c⟩ := hs.place g e he j hj
    exact ⟨a, b, c.trans (congrArg Message.channel hmsg).symm⟩
  · have hmsg := hentry e ((hq.used e).2 ⟨g, List.mem_of_mem_head? hhead⟩)
    exact ⟨hhead, hopened, rfl, (congrArg Message.length hmsg).ge, fun hsealed => (congrArg Message.state hmsg).trans hsealed⟩

theorem delivering_startMessage (hd : s.Delivering held pend) (hm : (s.messages.read m).state = .vacant)
    (hi : (s.channels.read i).state = .opened) :
    (startMessage h r i m s).Delivering held pend ∧ FillsSame (s.begun h r i m) (startMessage h r i m s) := by
  obtain ⟨hbegun, hnone⟩ := delivering_begun (h := h) (r := r) hd hm hi
  unfold startMessage
  dsimp only
  split
  · refine delivering_createDeliveries (s := s.begun h r i m) hbegun ?_ hnone
    rw [begun_message, if_pos rfl]
    rfl
  · exact ⟨hbegun, .refl _⟩

/-- A FILLING message grows (R69). -/
theorem delivering_appendBytes (hd : s.Delivering held pend) (hm : (s.messages.read m).state = .filling)
    (bytes : List Byte) : (appendBytes m bytes s).Delivering held pend := by
  obtain ⟨hd', tl, n, hmsg⟩ := appendBytes_messages m bytes s
  have hlive := Message.isLive_of_filling hm
  refine delivering_rewrite (m := m) (y := _) hd hlive ?_ ?_ ?_ (fun _ _ => rfl) hmsg (by simp) (by simp) (by simp)
    (by simp)
  · exact ⟨rfl, rfl, rfl, id, Nat.le_add_right _ _, id⟩
  · exact hd.refs.count m hlive
  · exact hd.refs.pos m hlive

/-- A SEAL's deliveries, on a WHOLE channel; the hold is yet to be dropped (R74). -/
theorem delivering_sealMessage (hd : s.Delivering held pend) (hm : (s.messages.read m).state = .filling)
    (hone : (s.messages.read m).mode ≠ .streaming → (s.messages.read m).refCount ≤ 1) :
    (sealMessage m s).Delivering (m :: held) pend ∧ FillsSame (s.marked m .sealed) (sealMessage m s) := by
  have hmarked := delivering_marked hd hm (x := .sealed) nofun nofun
  have hcount := hd.refs.count m (Message.isLive_of_filling hm)
  rw [if_pos hm] at hcount
  unfold sealMessage
  dsimp only
  split
  · next hwhole =>
    refine delivering_createDeliveries (s := s.marked m .sealed) hmarked ?_ ?_
    · exact hmarked.refs.held m List.mem_cons_self
    · have hle := hone (by simp [hwhole])
      show s.entriesOf m = 0
      omega
  · exact ⟨hmarked, .refl _⟩

end

end Sys2Proof.Machine
end

section
/-! SUPPORT. The laws of the deliveries through the reads and the subscription requests: an entry opened, read on, requeued or
gone, a subscription made or resting (R46, R51, R52, R97 to R102). -/

namespace Sys2Proof.Machine

variable {held : List MsgId} {pend pend' : HostId → Option PendingResult} {s t u : State}

/-! ## Entries (R85, R97, R100, R102) -/

/-- An entry rewritten in its offset and its state. -/
theorem delivering_entry {e : EntryId} {y : Entry} (hd : s.Delivering held pend)
    (hused : (s.entries.read e).inUse = true)
    (hy : y.inUse = true ∧ y.message = (s.entries.read e).message ∧ y.subscription = (s.entries.read e).subscription)
    (hoffset : y.offset ≤ (s.messages.read (s.entries.read e).message).length)
    (hstate : ∀ h, e ∈ (s.queues.read h).tail → y.state = .queued) (hreads : t.Reading pend')
    (he : t.entries = s.entries.write e y) (hm : t.messages = s.messages) (hc : t.channels = s.channels)
    (hs : t.subs = s.subs) (hq : t.queues = s.queues) : t.Delivering held pend' := by
  have hread : ∀ x, t.entries.read x = if x = e then y else s.entries.read x := fun x => by rw [he, Table.read_write]
  have hsame : ∀ x, (t.entries.read x).inUse = (s.entries.read x).inUse
      ∧ (t.entries.read x).message = (s.entries.read x).message
      ∧ (t.entries.read x).subscription = (s.entries.read x).subscription := fun x => by
    rw [hread]
    split
    · next hx => subst hx; exact ⟨hy.1.trans hused.symm, hy.2⟩
    · exact ⟨rfl, rfl, rfl⟩
  refine ⟨referred_of_entries hd.refs hm (fun x => ⟨(hsame x).1, (hsame x).2.1⟩) (fun x hx => ?_) (fun x hx => ?_),
    queueing_of_entries hd.queues hq (fun x => ⟨(hsame x).1, (hsame x).2.1⟩) fun h x hx => ?_,
    ⟨fun c => ?_, by rw [hm, hc]; exact hd.channels.place, by rw [hm, hc]; exact hd.channels.filling⟩,
    ⟨fun c => ?_, by rw [hs, hc]; exact hd.subs.opened, fun i hi => ?_, fun h x hx i hi => ?_⟩, hreads⟩
  · rw [hread]
    split
    · next hxe => rw [hxe]; exact hoffset
    · exact hd.refs.within x hx
  · rw [hread, if_neg fun hxe => by rw [hxe, hused] at hx; cases hx]
    exact hd.refs.free x hx
  · rw [hread]
    split
    · next hxe => exact hstate h (hxe ▸ hx)
    · exact hd.queues.waiting h x hx
  · rw [hc, State.liveOn, hm]
    exact hd.channels.count c
  · rw [hc, State.subscribersOn, hs]
    exact hd.subs.count c
  · have hnaming : t.entriesNaming i = s.entriesNaming i := countIf_congr fun x => by rw [(hsame x).1, (hsame x).2.2]
    rw [hs] at hi ⊢
    rw [hnaming]
    exact hd.subs.queued i hi
  · rw [hq] at hx
    rw [(hsame x).2.2] at hi
    rw [hs, hm, (hsame x).2.1]
    exact hd.subs.place h x hx i hi

/-- The entry of one queue rewritten, while no read of that queue is in flight. -/
theorem reading_entry {h : HostId} {e : EntryId} {y : Entry} (hd : s.Delivering held pend) (hmem : e ∈ s.queues.read h)
    (hle : ∀ g p, pend' g = some p → pend g = some p) (hnone : pend' h = none)
    (he : t.entries = s.entries.write e y) (hm : t.messages = s.messages) (hq : t.queues = s.queues) :
    t.Reading pend' :=
  hd.reads.keep hle fun g p x hpend _ hhead hopened => by
    have hxe : x ≠ e := by
      rintro rfl
      rw [hd.queues.sole g h x (List.mem_of_mem_head? hhead) hmem, hnone] at hpend
      cases hpend
    rw [he, hm, hq, Table.read_write_ne _ _ hxe]
    exact ⟨hhead, hopened, rfl, le_rfl, id⟩

/-- The head of a queue is in no queue's tail. -/
theorem notMem_tail_of_head {h g : HostId} {e : EntryId} (hq : s.Queueing) (he : (s.queues.read h).head? = some e) :
    e ∉ (s.queues.read g).tail := fun hmem => by
  have hg := hq.sole g h e (List.mem_of_mem_tail hmem) (List.mem_of_mem_head? he)
  subst hg
  have hnodup := hq.nodup g
  cases hl : s.queues.read g with
  | nil => simp [hl] at he
  | cons a l =>
    rw [hl] at he hmem hnodup
    obtain rfl := Option.some.inj he
    exact (List.nodup_cons.1 hnodup).1 hmem

/-- The reads in flight but that of one host. -/
def dropRead (h : HostId) (pend : HostId → Option PendingResult) : HostId → Option PendingResult :=
  Function.update pend h none

theorem dropRead_self (h : HostId) (pend : HostId → Option PendingResult) : dropRead h pend h = none :=
  Function.update_self ..

theorem dropRead_le {h g : HostId} {p : PendingResult} (hp : dropRead h pend g = some p) : pend g = some p := by
  unfold dropRead at hp
  by_cases hg : g = h
  · rw [hg, Function.update_self] at hp
    cases hp
  · rwa [Function.update_of_ne hg] at hp

theorem delivering_dropRead (hd : s.Delivering held pend) (h : HostId) : s.Delivering held (dropRead h pend) :=
  hd.drop fun _ _ => dropRead_le

/-- The read offset advances (R100). -/
theorem delivering_advance {h : HostId} {e : EntryId} (hd : s.Delivering held pend) (n : Nat)
    (he : (s.queues.read h).head? = some e)
    (hn : (s.entries.read e).offset + n ≤ (s.messages.read (s.entries.read e).message).length) :
    (s.modEntry e fun x => { x with offset := x.offset + n }).Delivering held (dropRead h pend) :=
  delivering_entry (e := e) (y := { s.entries.read e with offset := (s.entries.read e).offset + n }) hd (hd.head_used he)
    ⟨hd.head_used he, rfl, rfl⟩ hn
    (fun _ hmem => absurd hmem (notMem_tail_of_head hd.queues he))
    (reading_entry hd (List.mem_of_mem_head? he) (fun _ _ => dropRead_le) (dropRead_self h pend) rfl rfl rfl)
    rfl rfl rfl rfl rfl

/-- The commit of a TAKE (R100, R101). -/
theorem delivering_commitTake {h : HostId} {p : PendingResult} (hd : s.Delivering held pend) (hp : pend h = some p) :
    (commitTake h p.commit s).Delivering held (dropRead h pend) := by
  have hdrop := delivering_dropRead hd h
  unfold commitTake
  split
  · next e n last o hcommit =>
    obtain ⟨hhead, -⟩ := hd.reads.head h p e hp ⟨_, _, _, _, hcommit, .inl rfl⟩
    obtain ⟨-, hn, -⟩ := hd.reads.commit h p e _ _ _ _ hp hcommit
    have hmoved := delivering_advance hd n hhead (hn rfl)
    dsimp only
    split
    · exact (delivering_removeEntry hmoved (List.mem_of_mem_head? hhead) (.inr (dropRead_self h pend))).congr
        (by simp) (by simp) (by simp) (by simp) (by simp)
    · exact hmoved
  · next e n last o hcommit =>
    obtain ⟨hhead, -⟩ := hd.reads.head h p e hp ⟨_, _, _, _, hcommit, .inr rfl⟩
    exact delivering_removeEntry hdrop (List.mem_of_mem_head? hhead) (.inr (dropRead_self h pend))
  · exact hdrop

/-- The void of a read (R102, R138). -/
theorem delivering_voidRead (hd : s.Delivering held pend) (h : HostId) :
    (voidRead (pend h) s).Delivering held (dropRead h pend) := by
  unfold voidRead
  split
  · next _ _ _ e o n last hp =>
    have hopened := (hd.reads.commit h _ e o n last true hp rfl).1 rfl
    obtain ⟨hhead, -⟩ := hd.reads.head h _ e hp ⟨_, _, _, _, rfl, hopened⟩
    have hused := hd.head_used hhead
    refine delivering_entry hd (e := e)
      (y := if (s.entries.read e).offset = 0 then { s.entries.read e with state := .queued } else s.entries.read e)
      hused ?_ ?_ (fun _ hmem => absurd hmem (notMem_tail_of_head hd.queues hhead))
      (reading_entry hd (List.mem_of_mem_head? hhead) (fun _ _ => dropRead_le) (dropRead_self h pend) rfl rfl rfl)
      rfl rfl rfl rfl rfl
    · split <;> exact ⟨hused, rfl, rfl⟩
    · split <;> exact hd.refs.within e hused
  · exact delivering_dropRead hd h

/-! ## A TAKE at its header (R97, R98) -/

/-- What a TAKE of `n` bytes answers from an entry (R97, R98). -/
theorem takeDescriptor_commits (m : Message) (x : Entry) (n : Nat) (hx : x.offset ≤ m.length) :
    ((takeDescriptor m x n).outcome = .data → x.offset + (takeDescriptor m x n).count ≤ m.length)
      ∧ ((takeDescriptor m x n).last = true → (takeDescriptor m x n).outcome = .data ∧ m.state = .sealed) := by
  unfold takeDescriptor
  dsimp only
  refine ⟨fun ho => ?_, fun hl => ?_⟩
  · rw [if_pos ho]
    omega
  · simp only [Bool.and_eq_true, beq_iff_eq] at hl
    exact hl.1

/-- A read joins those in flight. -/
theorem reading_update {h : HostId} {p : PendingResult} (hr : s.Reading (dropRead h pend))
    (hhead : ∀ e, p.takes e → (s.queues.read h).head? = some e ∧ (s.entries.read e).state = .opened)
    (hcommit : ∀ e o n last opened, p.commit = .take e o n last opened →
      (opened = true → o = .data ∨ o = .aborted)
        ∧ (o = .data → (s.entries.read e).offset + n ≤ (s.messages.read (s.entries.read e).message).length)
        ∧ (last = true → o = .data ∧ (s.messages.read (s.entries.read e).message).state = .sealed)) :
    s.Reading (Function.update pend h (some p)) := by
  have hother : ∀ g q, g ≠ h → Function.update pend h (some p) g = some q → dropRead h pend g = some q :=
      fun g q hg hq => by
    rw [Function.update_of_ne hg] at hq
    rwa [dropRead, Function.update_of_ne hg]
  refine ⟨fun g q e hq ht => ?_, fun g q e o n last opened hq hc => ?_⟩
  · by_cases hg : g = h
    · subst hg
      rw [Function.update_self] at hq
      exact hhead e (Option.some.inj hq ▸ ht)
    · exact hr.head g q e (hother g q hg hq) ht
  · by_cases hg : g = h
    · subst hg
      rw [Function.update_self] at hq
      exact hcommit e o n last opened (Option.some.inj hq ▸ hc)
    · exact hr.commit g q e o n last opened (hother g q hg hq) hc

theorem answerTakeHead_eq (h : HostId) (n : Nat) (e : EntryId) (s : State) :
    let o := takeOutcome (s.messages.read (s.entries.read e).message) (s.entries.read e)
    answerTakeHead h n e s = respond h (s.takeResult n e) { s with entries := s.entriesAfterTake e o } := by
  intro o
  rw [← modEntry_opened_eq]
  rfl

theorem reads_respond (h : HostId) (p : PendingResult) (s : State) :
    (respond h p s).reads = Function.update s.reads h (some p) := by
  funext g
  by_cases hg : g = h
  · subst hg
    rw [Function.update_self]
    exact congrArg Link.pendingResult (Table.read_update_self _ _ _)
  · rw [Function.update_of_ne hg]
    exact congrArg Link.pendingResult (Table.read_update_ne _ _ hg)

/-- What a TAKE answers agrees with the entry it has opened. -/
theorem takeResult_commits {e : EntryId} {x : Entry} (hd : s.Delivering held pend) (n : Nat)
    (hused : (s.entries.read e).inUse = true) (hx : x.offset = (s.entries.read e).offset ∧
      x.message = (s.entries.read e).message) :
    ∀ o k last opened, (s.takeResult n e).commit = .take e o k last opened →
      (opened = true → o = .data ∨ o = .aborted)
        ∧ (o = .data → x.offset + k ≤ (s.messages.read x.message).length)
        ∧ (last = true → o = .data ∧ (s.messages.read x.message).state = .sealed) := by
  intro o k last opened hc
  obtain ⟨hn, hl⟩ := takeDescriptor_commits (s.messages.read (s.entries.read e).message) (s.entries.read e) n
    (hd.refs.within e hused)
  rw [hx.1, hx.2]
  simp only [State.takeResult, Commit.take.injEq, true_and] at hc
  obtain ⟨rfl, rfl, rfl, rfl⟩ := hc
  exact ⟨fun ho => by simp only [Bool.and_eq_true, Bool.or_eq_true, beq_iff_eq] at ho; exact ho.1, hn, hl⟩

theorem takeResult_takes {e x : EntryId} {n : Nat} (ht : (s.takeResult n e).takes x) :
    x = e ∧ (takeOutcome (s.messages.read (s.entries.read e).message) (s.entries.read e) = .data
      ∨ takeOutcome (s.messages.read (s.entries.read e).message) (s.entries.read e) = .aborted) := by
  obtain ⟨o, k, last, opened, hc, ho⟩ := ht
  simp only [State.takeResult, Commit.take.injEq] at hc
  obtain ⟨rfl, rfl, -⟩ := hc
  exact ⟨rfl, ho⟩

theorem delivering_answerTakeHead {h : HostId} {e : EntryId} (hd : s.Delivering held s.reads) (n : Nat)
    (he : (s.queues.read h).head? = some e) :
    (answerTakeHead h n e s).Delivering held (answerTakeHead h n e s).reads := by
  have hused := hd.head_used he
  have hmem := List.mem_of_mem_head? he
  have htakes := fun x => takeResult_takes (s := s) (e := e) (n := n) (x := x)
  have hcommit_entry : ∀ x o k last opened, (s.takeResult n e).commit = .take x o k last opened → x = e := by
    intro x o k last opened hc
    simp only [State.takeResult, Commit.take.injEq] at hc
    exact hc.1.symm
  rw [answerTakeHead_eq, reads_respond]
  by_cases ho : takeOutcome (s.messages.read (s.entries.read e).message) (s.entries.read e) = .data
      ∨ takeOutcome (s.messages.read (s.entries.read e).message) (s.entries.read e) = .aborted
  · rw [State.entriesAfterTake, if_pos ho]
    refine delivering_entry hd hused (y := { s.entries.read e with state := .opened }) ⟨hused, rfl, rfl⟩
      (hd.refs.within e hused) (fun _ hmem => absurd hmem (notMem_tail_of_head hd.queues he)) ?_ rfl rfl rfl rfl rfl
    refine reading_update (reading_entry hd hmem (fun _ _ => dropRead_le) (dropRead_self h _) rfl rfl rfl)
      (fun x hx => ?_) fun x o k last opened hc => ?_
    · obtain ⟨rfl, -⟩ := htakes x hx
      exact ⟨he, congrArg Entry.state (Table.read_write_self _ _ _)⟩
    · obtain rfl := hcommit_entry x o k last opened hc
      exact takeResult_commits (x := (s.entries.write x { s.entries.read x with state := .opened }).read x) hd n hused
        ⟨by rw [Table.read_write_self], by rw [Table.read_write_self]⟩ o k last opened hc
  · rw [State.entriesAfterTake, if_neg ho]
    refine State.Delivering.congr (s := s) ⟨hd.refs, hd.queues, hd.channels, hd.subs, ?_⟩ rfl rfl rfl rfl rfl
    refine reading_update (delivering_dropRead hd h).reads (fun x hx => absurd (htakes x hx).2 ho)
      fun x o k last opened hc => ?_
    obtain rfl := hcommit_entry x o k last opened hc
    exact takeResult_commits hd n hused ⟨rfl, rfl⟩ o k last opened hc

end Sys2Proof.Machine
end

section
/-! SUPPORT. The laws of the deliveries through subscriptions made and resting, closes, teardowns and clears (R35 to R37,
R46, R51, R52, R154, R163). -/

namespace Sys2Proof.Machine

variable {held : List MsgId} {pend pend' : HostId → Option PendingResult} {s t u : State}

/-! ## Subscriptions (R46, R51, R52) -/

theorem entriesNaming_of_free {i : SubId} (hd : s.Delivering held pend) (hi : (s.subs.read i).state = .free) :
    s.entriesNaming i = 0 := by
  refine (countIf_eq_zero_iff _ _).2 fun e => Bool.eq_false_iff.2 fun he => ?_
  simp only [Bool.and_eq_true, beq_iff_eq] at he
  obtain ⟨h, hmem⟩ := (hd.queues.used e).1 he.1
  exact (hd.subs.place h e hmem i he.2).1 hi

/-- A subscription is made on an OPEN channel (R46). -/
theorem delivering_subscribed {i : SubId} {c : ChanId} {y : Subscription} (hd : s.Delivering held pend)
    (hi : (s.subs.read i).state = .free) (hc : (s.channels.read c).state = .opened)
    (hy : y.state ≠ .free ∧ y.channel = c ∧ y.queued = 0) :
    ((s.modSub i fun _ => y).modChannel c fun x =>
      { x with subscriberCount := x.subscriberCount + 1 }).Delivering held pend := by
  obtain ⟨hused, hchannel, hqueued⟩ := hy
  have hsub : ∀ j, (s.subs.update i fun _ => y).read j = if j = i then y else s.subs.read j := fun j =>
    Table.read_update _ _ _ _
  have hread : ∀ d, (s.channels.update c fun x => { x with subscriberCount := x.subscriberCount + 1 }).read d =
      if d = c then { s.channels.read d with subscriberCount := (s.channels.read d).subscriberCount + 1 }
      else s.channels.read d := fun d => by
    rw [Table.read_update]
    split
    · next hdc => rw [hdc]
    · rfl
  have hkept : ∀ d, ((s.channels.update c fun x => { x with subscriberCount := x.subscriberCount + 1 }).read d).state =
      (s.channels.read d).state := fun d => by
    rw [hread]
    split <;> rfl
  refine ⟨referred_congr hd.refs rfl rfl, queueing_congr hd.queues rfl rfl,
    ⟨fun d => ?_, fun m hm => ?_, fun m hm => ?_⟩,
    ⟨fun d => ?_, fun j hj => ?_, fun j hj => ?_, fun h e he j hj => ?_⟩, reading_congr hd.reads rfl rfl rfl⟩
  · refine Eq.trans ?_ (hd.channels.count d)
    show ((s.channels.update c _).read d).liveCount = _
    rw [hread]
    split <;> rfl
  · show ((s.channels.update c _).read _).state ≠ _ ∧ ((s.channels.update c _).read _).key = _
    rw [hread]
    split <;> exact hd.channels.place m hm
  · exact (hkept _).trans (hd.channels.filling m hm)
  · have hcount : (s.subs.update i fun _ => y).countIf (fun x => x.state != .free && x.channel == d) =
        s.subscribersOn d + if c = d then 1 else 0 := by
      have hx := countIf_exchange (t := s.subs) (u := s.subs.update i fun _ => y) (m := i)
        (fun j hj => Table.read_update_ne _ _ hj) (fun x => x.state != .free && x.channel == d)
      rw [Table.read_update_self, hi, bne_iff_ne.2 hused, hchannel] at hx
      unfold State.subscribersOn
      split
      · next hcd => simpa [hcd] using hx
      · next hcd => simpa [beq_false_of_ne hcd] using hx
    have hold := hd.subs.count d
    simp only [State.subscribersOn, State.modChannel_channels, State.modSub_channels, State.modChannel_subs,
      State.modSub_subs]
    rw [hcount, hread]
    split
    · next hdc =>
      rw [if_pos hdc.symm]
      dsimp only
      omega
    · next hdc =>
      rw [if_neg (Ne.symm hdc)]
      exact hold
  · refine (hkept _).trans ?_
    show (s.channels.read ((s.subs.update i _).read j).channel).state = _
    have hj' : ((s.subs.update i fun _ => y).read j).state ≠ .free := hj
    rw [hsub] at hj' ⊢
    split at hj'
    · next hji => rw [if_pos hji, hchannel]; exact hc
    · next hji => rw [if_neg hji]; exact hd.subs.opened j hj'
  · show ((s.subs.update i _).read j).queued = s.entriesNaming j
    have hj' : ((s.subs.update i fun _ => y).read j).state ≠ .free := hj
    rw [hsub] at hj' ⊢
    split at hj'
    · next hji => rw [if_pos hji, hji, hqueued, entriesNaming_of_free hd hi]
    · next hji => rw [if_neg hji]; exact hd.subs.queued j hj'
  · have hplace := hd.subs.place h e he j hj
    have hji : j ≠ i := fun hji => hplace.1 (hji ▸ hi)
    show ((s.subs.update i _).read j).state ≠ _ ∧ ((s.subs.update i _).read j).owner = _
      ∧ ((s.subs.update i _).read j).channel = _
    rw [hsub, if_neg hji]
    exact hplace

/-- A subscription rests or is active again (R51, R52). -/
theorem delivering_rested {i : SubId} {x : SubState} (hd : s.Delivering held pend) (hi : (s.subs.read i).state ≠ .free)
    (hx : x ≠ .free) : (s.modSub i fun y => { y with state := x }).Delivering held pend := by
  have hsub : ∀ j, ((s.modSub i fun y => { y with state := x }).subs.read j).owner = (s.subs.read j).owner
      ∧ ((s.modSub i fun y => { y with state := x }).subs.read j).channel = (s.subs.read j).channel
      ∧ ((s.modSub i fun y => { y with state := x }).subs.read j).queued = (s.subs.read j).queued
      ∧ (((s.modSub i fun y => { y with state := x }).subs.read j).state = .free ↔ (s.subs.read j).state = .free) := by
    intro j
    rw [State.modSub_subs, Table.read_update]
    split
    · next hj => subst hj; exact ⟨rfl, rfl, rfl, by simp [hi, hx]⟩
    · exact ⟨rfl, rfl, rfl, Iff.rfl⟩
  refine ⟨referred_congr hd.refs rfl rfl, queueing_congr hd.queues rfl rfl,
    ⟨hd.channels.count, hd.channels.place, hd.channels.filling⟩,
    ⟨fun c => ?_, fun j hj => ?_, fun j hj => ?_, fun h e he j hj => ?_⟩, reading_congr hd.reads rfl rfl rfl⟩
  · refine (hd.subs.count c).trans (countIf_congr fun j => ?_)
    rw [(hsub j).2.1]
    by_cases hf : (s.subs.read j).state = .free
    · rw [hf, (hsub j).2.2.2.2 hf]
    · rw [bne_iff_ne.2 hf, bne_iff_ne.2 (mt (hsub j).2.2.2.1 hf)]
  · rw [(hsub j).2.1]
    exact hd.subs.opened j (mt (hsub j).2.2.2.2 hj)
  · rw [(hsub j).2.2.1]
    exact hd.subs.queued j (mt (hsub j).2.2.2.2 hj)
  · obtain ⟨a, b, c⟩ := hd.subs.place h e he j hj
    exact ⟨mt (hsub j).2.2.2.1 a, (hsub j).1.trans b, (hsub j).2.1.trans c⟩

/-! ## The close of a channel (R35 to R37) -/

/-- FILLING messages whose mode is not STREAMING have the hold alone. -/
def State.HeldAlone (s : State) (m : MsgId) : Prop :=
  (s.messages.read m).mode ≠ .streaming → (s.messages.read m).refCount ≤ 1

theorem closeAbort_message_ne {m k : MsgId} (s : State) (hk : k ≠ m) :
    (closeAbort m s).messages.read k = s.messages.read k := by
  simp only [closeAbort, post_frame, abortMessage_others s hk]

theorem delivering_foldl_closeAbort {l : List MsgId} (hl : l.Nodup) (hd : s.Delivering held pend)
    (hf : ∀ m ∈ l, (s.messages.read m).state = .filling ∧ s.HeldAlone m) :
    (l.foldl (fun s m => closeAbort m s) s).Delivering held pend
      ∧ (∀ m ∈ l, ((l.foldl (fun s m => closeAbort m s) s).messages.read m).state ≠ .filling)
      ∧ ∀ m, m ∉ l → (l.foldl (fun s m => closeAbort m s) s).messages.read m = s.messages.read m := by
  induction l generalizing s with
  | nil => exact ⟨hd, nofun, fun _ _ => rfl⟩
  | cons m l ih =>
    obtain ⟨hm, hl⟩ := List.nodup_cons.1 hl
    obtain ⟨hfill, hone⟩ := hf m List.mem_cons_self
    have habort : (closeAbort m s).Delivering held pend :=
      (delivering_abortMessage hd hfill hone).congr (by simp [closeAbort]) (by simp [closeAbort]) (by simp [closeAbort])
        (by simp [closeAbort]) (by simp [closeAbort])
    have hgone : ((closeAbort m s).messages.read m).state ≠ .filling := by
      simp only [closeAbort, post_frame]
      exact abortMessage_not_filling hone
    obtain ⟨hfinal, hnone, hother⟩ := ih hl habort fun k hk => by
      have hne : k ≠ m := fun he => hm (he ▸ hk)
      rw [State.HeldAlone, closeAbort_message_ne s hne]
      exact hf k (.tail m hk)
    refine ⟨hfinal, fun k hk => ?_, fun k hk => ?_⟩
    · obtain rfl | hk := List.mem_cons.1 hk
      · exact (congrArg Message.state (hother k hm)).trans_ne hgone
      · exact hnone k hk
    · rw [List.mem_cons, not_or] at hk
      exact (hother k hk.2).trans (closeAbort_message_ne s hk.1)

theorem delivering_foldl_freeSubscription {f : State → SubId → State}
    (hf : ∀ s i, (f s i).messages = (freeSubscription i s).messages ∧ (f s i).channels = (freeSubscription i s).channels
      ∧ (f s i).subs = (freeSubscription i s).subs ∧ (f s i).entries = (freeSubscription i s).entries
      ∧ (f s i).queues = (freeSubscription i s).queues)
    {l : List SubId} (hl : l.Nodup) (hd : s.Delivering held pend) (hi : ∀ i ∈ l, (s.subs.read i).state ≠ .free) :
    (l.foldl f s).Delivering held pend := by
  induction l generalizing s with
  | nil => exact hd
  | cons i l ih =>
    obtain ⟨hni, hl⟩ := List.nodup_cons.1 hl
    obtain ⟨hm, hc, hs, he, hq⟩ := hf s i
    refine ih hl ((delivering_freeSubscription hd (hi i List.mem_cons_self)).congr hm hc hs he hq) fun j hj => ?_
    have hne : j ≠ i := fun hji => hni (hji ▸ hj)
    rw [hs, freeSubscription_sub, if_neg hne]
    exact hi j (.tail i hj)

/-- The close event: its messages aborted and its subscriptions freed, the slot is CLOSED or DRAINING (R37). -/
theorem delivering_closeChannel (hd : s.Delivering held pend) (hf : fillingLaw s) (c : ChanId) :
    (closeChannel c s).Delivering held pend := by
  have hnodup : (s.messages.indices fun m => m.state == .filling && m.channel == c).Nodup :=
    (List.nodup_finRange 128).filter _
  obtain ⟨haborts, hnone, hother⟩ := delivering_foldl_closeAbort hnodup hd fun m hm => by
    simp only [Table.mem_indices, Bool.and_eq_true, beq_iff_eq] at hm
    exact ⟨hm.1, hf.2 m hm.1⟩
  have haborts : (closeAborts c s).Delivering held pend := haborts
  have hnofill : ∀ m, ((closeAborts c s).messages.read m).state = .filling →
      ((closeAborts c s).messages.read m).channel ≠ c := fun m hm hmc => by
    by_cases hin : m ∈ s.messages.indices fun m => m.state == .filling && m.channel == c
    · exact hnone m hin hm
    · rw [show (closeAborts c s).messages.read m = s.messages.read m from hother m hin] at hm hmc
      simp [hm, hmc] at hin
  have hsubs : (closeSubscriptions c (closeAborts c s)).Delivering held pend := by
    refine delivering_foldl_freeSubscription (fun s i => ?_) ((List.nodup_finRange 64).filter _) haborts fun i hi => ?_
    · simp [closeSubscription]
    · simp only [Table.mem_indices, Bool.and_eq_true, bne_iff_ne] at hi
      exact hi.1
  have hmessages : (closeSubscriptions c (closeAborts c s)).messages = (closeAborts c s).messages :=
    foldl_keeps State.messages _ _ _ (by simp [closeSubscription])
  have hnosubs : ∀ i, ((closeSubscriptions c (closeAborts c s)).subs.read i).state ≠ .free →
      ((closeSubscriptions c (closeAborts c s)).subs.read i).channel ≠ c := fun i hi hic => by
    have hread := foldl_freed_subs (f := fun t i => closeSubscription ((closeAborts c s).channels.read c).key i t)
      (fun t i => by simp [closeSubscription, freeSubscription_subs])
      ((closeAborts c s).subs.indices fun x => x.state != .free && x.channel == c) (closeAborts c s) i
    have hread' : (closeSubscriptions c (closeAborts c s)).subs.read i = _ := hread
    rw [hread'] at hi hic
    split at hi
    · exact hi rfl
    · next hin =>
      rw [if_neg hin] at hic
      simp [hi, hic] at hin
  generalize hv : closeSubscriptions c (closeAborts c s) = v at hsubs hmessages hnosubs
  have hclose : closeChannel c s = v.modChannel c Channel.afterClose := by rw [closeChannel, hv]
  have hcount := hsubs.channels.count c
  have hsubscribers := (subscribersOn_eq_zero_iff v c).2 hnosubs
  rw [hclose]
  refine delivering_channel (c := c) (y := (v.channels.read c).afterClose) hsubs ?_ ?_ (fun m hm hmc => ?_)
    (fun m hm hmc => ?_) (fun i hi hic => absurd hic (hnosubs i hi)) rfl rfl rfl rfl rfl
  · unfold Channel.afterClose
    split
    · next h0 => rw [← hcount, h0]; rfl
    · exact hcount
  · unfold Channel.afterClose
    split
    · rw [hsubscribers]; rfl
    · exact hsubs.subs.count c
  · have hne : (v.channels.read c).liveCount ≠ 0 := fun h0 =>
      (liveOn_eq_zero_iff v c).1 (hcount ▸ h0) m hm hmc
    unfold Channel.afterClose
    rw [if_neg hne]
    exact ⟨nofun, hmc ▸ (hsubs.channels.place m hm).2⟩
  · rw [hmessages] at hm hmc
    exact absurd hmc (hnofill m hm)

end Sys2Proof.Machine
end

section
/-! SUPPORT. The laws of the deliveries through teardowns and clears, and over every effect and every step (R154, R163). -/

namespace Sys2Proof.Machine

variable {held : List MsgId} {pend pend' : HostId → Option PendingResult} {s t u : State}

/-! ## The teardown of a host (R154) -/

theorem delivering_freeSubscriptionsOf (hd : s.Delivering held pend) (h : HostId) :
    (freeSubscriptionsOf h s).Delivering held pend :=
  delivering_foldl_freeSubscription (fun _ _ => ⟨rfl, rfl, rfl, rfl, rfl⟩) ((List.nodup_finRange 64).filter _) hd
    fun i hi => by
      simp only [Table.mem_indices, Bool.and_eq_true, bne_iff_ne] at hi
      exact hi.1

theorem delivering_unsubscribed (hd : s.Delivering held pend) {h : HostId} (hp : pend h = none) :
    (s.unsubscribed h).Delivering held pend ∧ FillsSame s (s.unsubscribed h) := by
  have hfree := delivering_freeSubscriptionsOf hd h
  refine (delivering_removeEntries hfree (hd.queues.nodup h) (fun x hx => ?_) (.inl hp)).imp_right
    fun hfills => FillsSame.trans (.of_eq (freeSubscriptionsOf_messages h s)) hfills
  rwa [freeSubscriptionsOf_queues]

/-- Entries that go leave a FILLING message alone with its hold, where it was. -/
theorem heldAlone_of_fades {m : MsgId} (hf : fillingLaw s) (hk : (s.messages.read m).FadesTo (t.messages.read m))
    (hm : (t.messages.read m).state = .filling) : t.HeldAlone m := fun hmode => by
  obtain ⟨hs, -, hmode', hr⟩ := hk hm
  exact hr.trans (hf.2 m hs (hmode' ▸ hmode))

theorem delivering_silenced (hd : s.Delivering held pend) (hf : fillingLaw s) {h : HostId} (hp : pend h = none) :
    (s.silenced h).Delivering held pend := by
  obtain ⟨hqueue, -⟩ := delivering_unsubscribed hd hp
  have habort : (abortFillingOf h (s.unsubscribed h)).Delivering held pend := by
    unfold abortFillingOf
    split
    · next m hm =>
      have hfill := (fillingOf_some hm).1
      exact delivering_abortMessage hqueue hfill (heldAlone_of_fades hf (unsubscribed_fades h s m) hfill)
    · exact hqueue
  exact habort.congr (by simp [State.silenced]) (by simp [State.silenced]) (by simp [State.silenced])
    (by simp [State.silenced]) (by simp [State.silenced])

theorem Channel.disown_kept (h : HostId) (c : Channel) :
    (c.disown h).state = c.state ∧ (c.disown h).key = c.key ∧ (c.disown h).liveCount = c.liveCount
      ∧ (c.disown h).subscriberCount = c.subscriberCount := by
  unfold Channel.disown
  split <;> exact ⟨rfl, rfl, rfl, rfl⟩

theorem delivering_dismantle (hd : s.Delivering held pend) (hf : fillingLaw s) {h : HostId} (final : Membership)
    (hp : pend h = none) : (dismantle h final s).Delivering held pend := by
  rw [dismantle_eq]
  refine delivering_channels (delivering_silenced hd hf hp) (fun c => ?_) rfl rfl rfl rfl
  dsimp only
  rw [Table.read_mapAll]
  exact Channel.disown_kept h _

/-! ## The reads on the links -/

/-- A response is pending on a link in RESPONSE_OUT alone (R135). -/
def State.Responds (s : State) : Prop := ∀ h, (s.links.read h).phase ≠ .responseOut → s.reads h = none

theorem cutOff_pending {l : Link} (hl : l.phase ≠ .responseOut → l.pendingResult = none) : l.cutOff.pendingResult = none := by
  unfold Link.cutOff
  split
  · rfl
  · next hp => exact hl fun hr => hp (.inr (.inr hr))

/-- The laws of the deliveries for the reads in flight on the links. -/
structure State.Delivers (s : State) : Prop where
  laws : s.Delivering [] s.reads
  responds : s.Responds

theorem reads_of_links (hl : t.links = s.links) : t.reads = s.reads := by
  funext h
  rw [State.reads, hl, State.reads]

theorem responds_of_links (hr : s.Responds) (hl : t.links = s.links) : t.Responds := fun h hp => by
  rw [reads_of_links hl]
  exact hr h (hl ▸ hp)

/-- The links are as they were. -/
theorem delivers_of_links (hs : s.Delivers) (hl : t.links = s.links) (hd : t.Delivering [] s.reads) : t.Delivers :=
  ⟨reads_of_links hl ▸ hd, responds_of_links hs.responds hl⟩

theorem delivers_congr (hs : s.Delivers) (hl : t.links = s.links) (hm : t.messages = s.messages)
    (hc : t.channels = s.channels) (hsub : t.subs = s.subs) (he : t.entries = s.entries) (hq : t.queues = s.queues) :
    t.Delivers := delivers_of_links hs hl (hs.laws.congr hm hc hsub he hq)

/-- Reads end, and none begins. -/
theorem delivers_settled (hs : s.Delivers) (hl : ∀ h, (s.links.read h).Settles (t.links.read h))
    (hd : t.Delivering [] s.reads) : t.Delivers := by
  refine ⟨hd.drop fun h p hp => ?_, fun h hp => ?_⟩
  · obtain hn | ⟨he, -⟩ := (hl h).pending
    · exact absurd (hn.symm.trans hp) (by simp)
    · exact he.symm.trans hp
  · obtain hn | ⟨he, hr⟩ := (hl h).pending
    · exact hn
    · exact he.trans (hs.responds h (mt hr hp))

theorem delivers_links (hs : s.Delivers) (ht : SettlesLinks s t) : t.Delivers := by
  refine delivers_settled hs ht.links ?_
  rw [ht.same]
  exact hs.laws.congr rfl rfl rfl rfl rfl

/-- The empty tables, where no read is in flight. -/
theorem delivers_of_empty (hm : ∀ m, s.messages.read m = Message.vacant) (hc : ∀ c, s.channels.read c = Channel.closed)
    (hs : ∀ i, s.subs.read i = Subscription.free) (he : ∀ e, s.entries.read e = Entry.free)
    (hq : ∀ h, s.queues.read h = []) (hp : ∀ h, s.reads h = none) : s.Delivers := by
  have hlive : ∀ m, (s.messages.read m).isLive ≠ true := fun m hl => by
    rw [hm] at hl
    cases hl
  have hused : ∀ e, (s.entries.read e).inUse ≠ true := fun e hu => by
    rw [he] at hu
    cases hu
  have hfill : ∀ m, (s.messages.read m).state ≠ .filling := fun m hf => hlive m (Message.isLive_of_filling hf)
  have hsub : ∀ i, ¬ (s.subs.read i).state ≠ .free := fun i hi => hi (by rw [hs]; rfl)
  have hmem : ∀ h e, e ∉ s.queues.read h := fun h e hmem => by
    rw [hq] at hmem
    cases hmem
  refine ⟨⟨⟨fun m hl => absurd hl (hlive m), fun m hl => absurd hl (hlive m), nofun, fun e hu => absurd hu (hused e),
      fun e hu => absurd hu (hused e), fun e _ => he e, fun m _ => hm m⟩,
    ⟨fun h => by rw [hq]; exact .nil, fun g h e hg => absurd hg (hmem g e), fun e => ?_, fun h => by rw [hq]; exact .nil,
      fun h e hmem' => absurd (List.mem_of_mem_tail hmem') (hmem h e)⟩,
    ⟨fun c => ?_, fun m hl => absurd hl (hlive m), fun m hf => absurd hf (hfill m)⟩,
    ⟨fun c => ?_, fun i hi => absurd hi (hsub i), fun i hi => absurd hi (hsub i), fun h e hmem' => absurd hmem' (hmem h e)⟩,
    ⟨fun h p e hpend => ?_, fun h p e o n last opened hpend => ?_⟩⟩, fun h _ => hp h⟩
  · exact ⟨fun hu => absurd hu (hused e), fun ⟨h, hmem'⟩ => absurd hmem' (hmem h e)⟩
  · rw [hc, (liveOn_eq_zero_iff s c).2 fun m hl => absurd hl (hlive m)]
    rfl
  · rw [hc, (subscribersOn_eq_zero_iff s c).2 fun i hi => absurd hi (hsub i)]
    rfl
  · rw [hp] at hpend
    cases hpend
  · rw [hp] at hpend
    cases hpend

theorem delivers_of_cleared (hc : Cleared s t) (hr : s.Responds) : t.Delivers := by
  obtain ⟨hmsg, hchan, hsub, hentry, hqueue⟩ := hc.tables
  exact delivers_of_empty hmsg hchan hsub hentry hqueue fun h => by
    rw [State.reads, hc.links h]
    exact cutOff_pending (hr h)

theorem delivers_judgeVote (hs : s.Delivers) : (judgeVote s).Delivers := by
  unfold judgeVote
  split
  · exact hs
  split
  · exact delivers_congr hs (by simp) (by simp) (by simp) (by simp) (by simp) (by simp)
  split
  · exact delivers_of_cleared (cleared_exchangeClear _) (responds_of_links hs.responds rfl)
  · exact hs

theorem delivers_dismantle (hs : s.Delivers) (hf : fillingLaw s) (h : HostId) (final : Membership) :
    (dismantle h final s).Delivers := by
  have hlinks : ∀ g, (s.links.read g).Settles ((dismantle h final s).links.read g) := fun g => by
    rw [dismantle_links, Table.read_write]
    split
    · next hg =>
      rw [hg, cutOff_eq_voidByEvent]
      exact Link.settles_voidByEvent _
    · exact .refl _
  have hgone : ((dismantle h final s).links.read h).pendingResult = none := by
    rw [dismantle_links, Table.read_write_self]
    exact cutOff_pending (hs.responds h)
  have hd := delivering_dismantle (delivering_dropRead hs.laws h) hf final (dropRead_self h s.reads)
  refine ⟨hd.drop fun g p hp => ?_, fun g hp => ?_⟩
  · by_cases hg : g = h
    · subst hg
      cases hgone.symm.trans hp
    · rw [dropRead, Function.update_of_ne hg]
      obtain hn | ⟨he, -⟩ := (hlinks g).pending
      · cases hn.symm.trans hp
      · exact he.symm.trans hp
  · obtain hn | ⟨he, hr⟩ := (hlinks g).pending
    · exact hn
    · exact he.trans (hs.responds g (mt hr hp))

theorem delivers_teardown (hs : s.Delivers) (hf : fillingLaw s) (h : HostId) (final : Membership) (n : Notice) :
    (teardown h final n s).Delivers := by
  have hu := delivers_dismantle hs hf h final
  rw [teardown_eq]
  unfold withdrawVote
  generalize dismantle h final s = u at hu ⊢
  have hjudged := delivers_judgeVote (s := { u with vote := u.vote.map fun v =>
    { v with voters := HostSet.erase v.voters h } }) (delivers_congr hu rfl rfl rfl rfl rfl rfl)
  exact delivers_congr hjudged (by simp) (by simp) (by simp) (by simp) (by simp) (by simp)

end Sys2Proof.Machine
end

section
/-! SUPPORT. The laws of the deliveries over every effect and every step. -/

namespace Sys2Proof.Machine

variable {s t : State}

theorem reads_closeTransaction (h : HostId) (s : State) : (closeTransaction h s).reads = dropRead h s.reads := by
  funext g
  by_cases hg : g = h
  · subst hg
    rw [dropRead_self]
    exact closeTransaction_pending g s
  · rw [dropRead, Function.update_of_ne hg, State.reads, closeTransaction_eq, State.setLink, Table.read_write_ne _ _ hg]
    rfl

/-- What a commit or a void does to the deliveries, its transaction over (R100 to R102). -/
theorem delivers_ended {h : HostId} (hs : s.Delivers) (hl : t.links = (closeTransaction h s).links)
    (hd : t.Delivering [] (dropRead h s.reads)) : t.Delivers := by
  have hclosed := delivers_links hs (settlesLinks_closeTransaction h s)
  refine delivers_of_links hclosed hl ?_
  rw [reads_closeTransaction]
  exact hd

theorem delivering_closeTransaction (hs : s.Delivers) (h : HostId) :
    (closeTransaction h s).Delivering [] s.reads :=
  hs.laws.congr (by simp) (by simp) (by simp) (by simp) (by simp)

theorem sealMessage_links (m : MsgId) (s : State) : (sealMessage m s).links = s.links := by
  unfold sealMessage
  dsimp only
  split <;> simp

theorem startMessage_links (h : HostId) (r : Request) (i : ChanId) (m : MsgId) (s : State) :
    (startMessage h r i m s).links = s.links := by
  unfold startMessage
  dsimp only
  split <;> simp

theorem responds_respond (hr : s.Responds) (h : HostId) (p : PendingResult) : (respond h p s).Responds := fun g hg => by
  by_cases hgh : g = h
  · subst hgh
    exact absurd (congrArg Link.phase (Table.read_update_self _ _ _)) hg
  · rw [reads_respond, Function.update_of_ne hgh]
    refine hr g fun hp => hg ?_
    exact (congrArg Link.phase (Table.read_update_ne _ _ hgh)).trans hp

/-- A response that is no TAKE's. -/
theorem delivers_respond (hs : s.Delivers) (h : HostId) {p : PendingResult}
    (hp : ∀ e o n last opened, p.commit ≠ .take e o n last opened) : (respond h p s).Delivers := by
  refine ⟨?_, fun g hg => ?_⟩
  · rw [reads_respond]
    refine State.Delivering.congr (s := s) ⟨hs.laws.refs, hs.laws.queues, hs.laws.channels, hs.laws.subs, ?_⟩
      rfl rfl rfl rfl rfl
    exact reading_update (delivering_dropRead hs.laws h).reads
      (fun e ⟨o, n, last, opened, hc, _⟩ => absurd hc (hp e o n last opened))
      fun e o n last opened hc => absurd hc (hp e o n last opened)
  · exact responds_respond hs.responds h p g hg

theorem delivers_answerTakeHead (hs : s.Delivers) {h : HostId} {e : EntryId} (n : Nat)
    (he : (s.queues.read h).head? = some e) : (answerTakeHead h n e s).Delivers := by
  refine ⟨delivering_answerTakeHead hs.laws n he, ?_⟩
  rw [answerTakeHead_eq]
  exact responds_respond (responds_of_links hs.responds rfl) _ _

theorem purged_mem {h : HostId} {i : SubId} {purge : Bool} {x : EntryId} (hx : x ∈ s.purged h i purge) :
    x ∈ s.queues.read h ∧ (s.entries.read x).state = .queued := by
  unfold State.purged at hx
  split at hx
  · simp only [State.queuedOf, List.mem_filter, Bool.and_eq_true, beq_iff_eq] at hx
    exact ⟨hx.1, hx.2.1⟩
  · cases hx

theorem purged_nodup (hq : s.Queueing) (h : HostId) (i : SubId) (purge : Bool) : (s.purged h i purge).Nodup := by
  unfold State.purged
  split
  · exact (hq.nodup h).filter _
  · exact .nil

/-- An UNSUBSCRIBE: the purge, then the freeing (R49, R50). -/
theorem delivers_unsubscribed (hs : s.Delivers) {h : HostId} {i : SubId} (purge : Bool)
    (hi : (s.subs.read i).state ≠ .free) :
    (freeSubscription i (removeEntries h (s.purged h i purge) s)).Delivers := by
  obtain ⟨hpurged, -⟩ := delivering_removeEntries hs.laws (purged_nodup hs.laws.queues h i purge)
    (fun x hx => (purged_mem hx).1) (.inr fun x hx => (purged_mem hx).2)
  refine delivers_of_links hs (by simp) (delivering_freeSubscription hpurged ?_)
  unfold removeEntries
  rwa [foldl_keeps (fun s : State => (s.subs.read i).state) _ _ _ fun s e => removeEntry_subState h e s i]

theorem delivers_underReset (s : State) : s.underReset.Delivers :=
  delivers_of_empty (Table.read_replicate _) (Table.read_replicate _) (Table.read_replicate _) (Table.read_replicate _)
    (Table.read_replicate _) fun h => by rw [State.reads, underReset_link]; rfl

/-- A link fault leaves the reads alone (R141). -/
theorem delivers_linkFault (hs : s.Delivers) (h : HostId) (f : LinkFault) (b : Byte) : (linkFault h f b s).Delivers := by
  have hlink : ∀ g, ((linkFault h f b s).links.read g).phase = (s.links.read g).phase
      ∧ (linkFault h f b s).reads g = s.reads g := fun g => by
    simp only [linkFault, latch_frame, State.modCounters_links, State.modLink_links, State.reads, Table.read_update]
    split
    · next hg => subst hg; exact ⟨rfl, rfl⟩
    · exact ⟨rfl, rfl⟩
  refine ⟨?_, fun g hg => (hlink g).2.trans (hs.responds g ((hlink g).1 ▸ hg))⟩
  rw [show (linkFault h f b s).reads = s.reads from funext fun g => (hlink g).2]
  exact hs.laws.congr (by simp) (by simp) (by simp) (by simp) (by simp)

theorem delivers_storeThreshold (hs : s.Delivers) (h : HostId) (b : Word16) : (storeThreshold h b s).Delivers := by
  unfold storeThreshold
  dsimp only
  split <;> exact delivers_congr hs rfl rfl rfl rfl rfl rfl

theorem delivers_commitFetchNotice (hs : s.Delivers) (h : HostId) (p : Commit) : (commitFetchNotice h p s).Delivers := by
  unfold commitFetchNotice
  split
  · exact delivers_congr hs rfl rfl rfl rfl rfl rfl
  · exact hs

theorem delivers_commitReadCounter (hs : s.Delivers) (h : HostId) (p : Commit) : (commitReadCounter h p s).Delivers := by
  unfold commitReadCounter
  split
  · exact delivers_congr hs rfl rfl rfl rfl rfl rfl
  · exact hs

/-- Every effect keeps the laws of the deliveries. -/
theorem delivers_effect {F : Prop} {c : Instr} (he : Effect F c s t) (hf : fillingLaw s) (hs : s.Delivers) :
    t.Delivers := by
  cases he with
  | links ht => exact delivers_links hs ht
  | judged => exact delivers_judgeVote hs
  | admitted r => exact delivers_congr hs rfl rfl rfl rfl rfl rfl
  | departed final n => exact delivers_teardown hs hf _ final n
  | setThreshold b => exact delivers_storeThreshold hs _ b
  | responded h p hp => exact delivers_respond hs h hp
  | tookHead _ he => exact delivers_answerTakeHead hs _ he
  | committedTake hp =>
    exact delivers_ended hs (commitTake_links _ _ _) (delivering_commitTake (delivering_closeTransaction hs _) hp)
  | committedNotice p => exact delivers_commitFetchNotice hs _ p
  | committedCounter p => exact delivers_commitReadCounter hs _ p
  | @voided h =>
    exact delivers_ended hs (by simp [voidRead_eq]) (delivering_voidRead (delivering_closeTransaction hs h) h)
  | faulted f b => exact delivers_linkFault hs _ f b
  | openedChannel _ _ _ hi => exact delivers_of_links hs rfl (delivering_openedChannel hs.laws _ _ _ hi)
  | closedChannel => exact delivers_of_links hs (closeChannel_links s _) (delivering_closeChannel hs.laws hf _)
  | subscribed _ hc hi => exact delivers_of_links hs rfl (delivering_subscribed hs.laws hi hc ⟨nofun, rfl, rfl⟩)
  | unsubscribed purge hi => exact delivers_unsubscribed hs purge hi
  | rested hi hx => exact delivers_of_links hs rfl (delivering_rested hs.laws hi hx)
  | @began h r i m _ _ _ _ hi hm =>
    have ha := delivers_congr (t := (arbitrate h s).1) hs (by simp) (by simp) (by simp) (by simp) (by simp) (by simp)
    refine delivers_of_links ha (startMessage_links _ _ _ _ _) (delivering_startMessage ha.laws ?_ ?_).1
    · simpa using hm
    · simpa using hi
  | put _ hm =>
    exact delivers_of_links hs (by simp) (delivering_appendBytes hs.laws (fillingOf_some hm).1 _)
  | @sealed h m _ hm =>
    have hfill := (fillingOf_some hm).1
    have hd := delivering_release (delivering_sealMessage hs.laws hfill (hf.2 m hfill)).1
    exact delivers_of_links hs (by simp [sealMessage_links])
      (hd.congr (by simp) (by simp) (by simp) (by simp) (by simp))
  | @aborted h m _ hm =>
    have hfill := (fillingOf_some hm).1
    exact delivers_of_links hs (by simp) (delivering_abortMessage hs.laws hfill (hf.2 m hfill))
  | skipped hp he =>
    exact delivers_of_links hs (by simp) (delivering_removeEntry hs.laws (List.mem_of_mem_head? he) (.inr hp))
  | reset ht =>
    rw [next_eq_of_eq (execDeviceReset_eq s) ht]
    exact delivers_underReset s
  | _ => exact delivers_congr hs (by simp) (by simp) (by simp) (by simp) (by simp) (by simp)

/-- Settles O59: every effect of a step keeps the references, the queues, the counts and the reads in flight; the Channel
Table, the Subscription Table and the framers have laws of their own that the step keeps. -/
theorem stepKeepsDeliveries : Obligations.StepKeepsDeliveries := by
  intro s t hl ht
  rw [deliveryLaw_iff] at hl ⊢
  obtain ⟨hd, hchan, hsub, hfill, hlink⟩ := hl
  have hs : s.Delivers := ⟨hd, fun h => (hlink h).2.2.2.2.1⟩
  obtain ⟨hfill', hd'⟩ := step_keeps (P := fun u => fillingLaw u ∧ u.Delivers)
    (fun _ _ hu => ⟨hu.1, delivers_congr hu.2 rfl rfl rfl rfl rfl rfl⟩)
    (fun _ _ _ he hu => ⟨fillingLaw_effect he hu.1, delivers_effect he hu.1 hu.2⟩) ⟨hfill, hs⟩ ht
  exact ⟨hd'.laws, stepKeepsChannelTable s t hchan ht, stepKeepsSubscriptionTable s t hsub ht, hfill',
    stepKeepsFramers s t hlink ht⟩

end Sys2Proof.Machine
end

section
/-! SUPPORT. The turn and the FILLING messages: who holds the turn IN_USE fills a message, and who was granted it or claims it
fills none (R113 to R118). -/

namespace Sys2Proof.Machine

variable {held : List MsgId} {pend : HostId → Option PendingResult} {s t u : State}

/-! ## Who fills a message -/

/-- A host fills a message. -/
def State.Fills (s : State) (h : HostId) : Prop :=
  ∃ m, (s.messages.read m).state = .filling ∧ (s.messages.read m).publisher = h

theorem fillingOf_eq_none_iff (s : State) (h : HostId) : s.fillingOf h = none ↔ ¬ s.Fills h := by
  constructor
  · rintro hn ⟨m, hm, hp⟩
    exact fillingOf_none hn m hm hp
  · intro hn
    cases hf : s.fillingOf h with
    | none => rfl
    | some m => exact absurd ⟨m, fillingOf_some hf⟩ hn

theorem fillingOf_isSome_iff (s : State) (h : HostId) : (s.fillingOf h).isSome ↔ s.Fills h := by
  rw [← not_iff_not, ← fillingOf_eq_none_iff, Option.not_isSome_iff_eq_none]

theorem FillsSame.fills (hst : FillsSame s t) (h : HostId) : t.Fills h ↔ s.Fills h := by
  constructor
  · rintro ⟨m, hm, hp⟩
    exact ⟨m, (hst m).1.1 hm, ((hst m).2 hm).symm.trans hp⟩
  · rintro ⟨m, hm, hp⟩
    have hm' := (hst m).1.2 hm
    exact ⟨m, hm', ((hst m).2 hm').trans hp⟩

/-! ## The law, but for a holder whose turn is about to end -/

/-- Holder, claimants and FILLING messages agree (R113, R116); the host `late` alone may hold the turn IN_USE with no
message left. -/
structure State.Turns (late : Option HostId) (s : State) : Prop where
  holder : ∀ h, s.turn.holder = some h → s.claimants.read h = false
  inUse : ∀ h d, s.turn = .inUse h d → late ≠ some h → s.Fills h
  granted : ∀ h d, s.turn = .granted h d → ¬ s.Fills h
  claim : ∀ h, s.claimants.read h = true → ¬ s.Fills h

theorem turnLaw_iff (s : State) : turnLaw s ↔ turnRecordLaw s ∧ s.Turns none := by
  constructor
  · rintro ⟨⟨hidle, hclaim, hholder, hjoined⟩, hinuse, hgranted, hclaimants⟩
    exact ⟨⟨hidle, hclaim, fun h hh => (hholder h hh).2, hjoined⟩, fun h hh => (hholder h hh).1,
      fun h d ht _ => (fillingOf_isSome_iff s h).1 (hinuse h d ht),
      fun h d ht => (fillingOf_eq_none_iff s h).1 (hgranted h d ht),
      fun h hh => (fillingOf_eq_none_iff s h).1 (hclaimants h hh)⟩
  · rintro ⟨⟨hidle, hclaim, hholder, hjoined⟩, ht⟩
    exact ⟨⟨hidle, hclaim, fun h hh => ⟨ht.holder h hh, hholder h hh⟩, hjoined⟩,
      fun h d hu => (fillingOf_isSome_iff s h).2 (ht.inUse h d hu nofun),
      fun h d hg => (fillingOf_eq_none_iff s h).2 (ht.granted h d hg),
      fun h hh => (fillingOf_eq_none_iff s h).2 (ht.claim h hh)⟩

/-- The turn and the claimants stay, or an end of rationing has cleared them (R112). -/
def TurnKept (s t : State) : Prop :=
  (t.turn = s.turn ∧ t.claimants = s.claimants) ∨ (t.turn = .none ∧ t.claimants = noHosts)

namespace TurnKept

theorem of_eq (ht : t.turn = s.turn) (hc : t.claimants = s.claimants) : TurnKept s t := .inl ⟨ht, hc⟩

theorem refl (s : State) : TurnKept s s := of_eq rfl rfl

theorem trans (hst : TurnKept s t) (htu : TurnKept t u) : TurnKept s u := by
  obtain ⟨ht, hc⟩ | hn := htu
  · exact hst.imp (fun ⟨ht', hc'⟩ => ⟨ht.trans ht', hc.trans hc'⟩) fun ⟨ht', hc'⟩ => ⟨ht.trans ht', hc.trans hc'⟩
  · exact .inr hn

theorem foldl {α : Type} {f : State → α → State} (hf : ∀ s a, TurnKept s (f s a)) (l : List α) (s : State) :
    TurnKept s (l.foldl f s) :=
  foldl_invariant (P := TurnKept s) (fun t a ht => ht.trans (hf t a)) l (refl s)

end TurnKept

theorem turns_of_none (ht : s.turn = .none) (hc : s.claimants = noHosts) (late : Option HostId) : s.Turns late :=
  ⟨fun h hh => by simp [ht, Turn.holder] at hh, fun h d hu => by simp [ht] at hu, fun h d hg => by simp [ht] at hg,
    fun h hh => by simp [hc] at hh⟩

/-- What the messages may do meanwhile: none begins, and `late` alone may lose its own. -/
theorem State.Turns.keep {late : Option HostId} (hs : s.Turns none) (hk : TurnKept s t)
    (hback : ∀ h, t.Fills h → s.Fills h) (hforth : ∀ h, late ≠ some h → s.Fills h → t.Fills h) : t.Turns late := by
  obtain ⟨ht, hc⟩ | ⟨ht, hc⟩ := hk
  · refine ⟨fun h hh => ?_, fun h d hu hl => ?_, fun h d hg => ?_, fun h hh => ?_⟩
    · rw [ht] at hh
      rw [hc]
      exact hs.holder h hh
    · exact hforth h hl (hs.inUse h d (ht ▸ hu) nofun)
    · exact mt (hback h) (hs.granted h d (ht ▸ hg))
    · exact mt (hback h) (hs.claim h (hc ▸ hh))
  · exact turns_of_none ht hc late

theorem turns_fillsSame (hs : s.Turns none) (hk : TurnKept s t) (hf : FillsSame s t) : t.Turns none :=
  hs.keep hk (fun h => (hf.fills h).1) fun h _ => (hf.fills h).2

theorem turns_congr (hs : s.Turns none) (ht : t.turn = s.turn) (hc : t.claimants = s.claimants)
    (hm : t.messages = s.messages) : t.Turns none := turns_fillsSame hs (.of_eq ht hc) (.of_eq hm)

/-! ## The arbiter -/

theorem turnKept_reevaluate (s : State) : TurnKept s (reevaluate s) := by
  obtain ⟨d, he, -⟩ := reevaluate_eq s
  rw [he]
  dsimp only [TurnKept]
  split
  · exact .inr ⟨rfl, rfl⟩
  · exact .inl ⟨rfl, rfl⟩

/-- The turn passes to a claimant, who fills no message (R117). -/
theorem turns_endTurn {late : Option HostId} (hs : s.Turns late) : (endTurn s).Turns none := by
  obtain ⟨hn, he⟩ | ⟨g, hg, he⟩ := endTurn_cases s <;> rw [he]
  · exact turns_of_none (s := { s with turn := .none }) rfl ((nextClaimant_eq_none_iff s).1 hn) none
  · refine ⟨fun h hh => ?_, nofun, fun h d hgr => ?_, fun h hh => ?_⟩
    · cases hh
      rw [HostSet.read_erase, if_pos rfl]
    · cases hgr
      exact hs.claim g (nextClaimant_claims hg)
    · rw [HostSet.read_erase] at hh
      split at hh
      · cases hh
      · exact hs.claim h hh

theorem turns_endTurnOf {h : HostId} (hs : s.Turns (some h)) : (endTurnOf h s).Turns none := by
  have of_ne : (∀ d, s.turn ≠ .inUse h d) → s.Turns none := fun hne =>
    ⟨hs.holder, fun g d hu _ => hs.inUse g d hu fun hg => hne d (Option.some.inj hg ▸ hu), hs.granted, hs.claim⟩
  unfold endTurnOf
  split
  · next g d ht =>
    split
    · exact turns_endTurn hs
    · next hg => exact of_ne fun d' hd' => hg (by rw [ht] at hd'; cases hd'; rfl)
  · next hne => exact of_ne fun d hd => hne h d hd

theorem turns_withdraw (hs : s.Turns none) (h : HostId) : (withdraw h s).Turns none := by
  have herase : State.Turns none { s with claimants := HostSet.erase s.claimants h } := by
    have hsub : ∀ g, (HostSet.erase s.claimants h).read g = true → s.claimants.read g = true := fun g hg => by
      rw [HostSet.read_erase] at hg
      split at hg
      · cases hg
      · exact hg
    refine ⟨fun g hg => Bool.eq_false_iff.2 fun hc => ?_, hs.inUse, hs.granted, fun g hg => hs.claim g (hsub g hg)⟩
    cases (hs.holder g hg).symm.trans (hsub g hc)
  unfold withdraw
  dsimp only
  split
  · exact turns_endTurn herase
  · exact herase

end Sys2Proof.Machine
end

section
/-! SUPPORT. The turn and the FILLING messages through the operations and over every effect, and soundness as a whole. -/

namespace Sys2Proof.Machine

variable {held : List MsgId} {pend : HostId → Option PendingResult} {s t u : State}

/-! ## What an end of rationing may do to the turn (R112) -/

theorem turnKept_freeMessage (m : MsgId) (s : State) : TurnKept s (freeMessage m s) := by
  have hf := freed_freeMessage m s
  rw [TurnKept, hf.turn, hf.claimants]
  split
  · exact .inr ⟨rfl, rfl⟩
  · exact .inl ⟨rfl, rfl⟩

theorem turnKept_release (m : MsgId) (s : State) : TurnKept s (release m s) := by
  rw [release_eq]
  split
  · exact .trans (.of_eq rfl rfl) (turnKept_freeMessage m _)
  · exact .of_eq rfl rfl

theorem turnKept_removeEntry (h : HostId) (e : EntryId) (s : State) : TurnKept s (removeEntry h e s) := by
  rw [removeEntry_eq]
  exact .trans (t := s.unqueued h e) (.of_eq rfl rfl) (turnKept_release _ _)

theorem turnKept_removeEntries (h : HostId) (es : List EntryId) (s : State) : TurnKept s (removeEntries h es s) :=
  .foldl (fun s e => turnKept_removeEntry h e s) es s

theorem turnKept_deliver (m : MsgId) (h : HostId) (i : SubId) (s : State) : TurnKept s (deliver m h i s) := by
  obtain ⟨-, e, -, ho⟩ | ⟨n, ho⟩ | ⟨-, -, e, -, ho⟩ := deliver_cases m h i s <;> rw [ho]
  · exact .of_eq (by simp) (by simp)
  · exact .of_eq (by simp) (by simp)
  · exact (turnKept_removeEntry h e s).trans (.of_eq (by simp [displace]) (by simp [displace]))

theorem turnKept_createDeliveries (m : MsgId) (s : State) : TurnKept s (createDeliveries m s) :=
  TurnKept.foldl (fun s (p : HostId × SubId) => turnKept_deliver m p.1 p.2 s) (s.targets m) s

theorem turnKept_chargeCells (m : MsgId) (k : Nat) (s : State) : TurnKept s (chargeCells m k s) := by
  unfold chargeCells
  split
  · exact .refl s
  split
  · exact .refl s
  next run t ht =>
  have htaken : TurnKept s t := by
    unfold takeCells at ht
    split at ht <;> cases ht
    exact .of_eq (by simp) (by simp)
  have hcharged : TurnKept t (setCharge (t.messages.read m).publisher
      ((t.accounts.read (t.messages.read m).publisher).charge + k) t) := .of_eq (by simp) (by simp)
  exact ((htaken.trans hcharged).trans (turnKept_reevaluate _)).trans (.of_eq (by simp) (by simp))

theorem turnKept_appendBytes (m : MsgId) (bytes : List Byte) (s : State) : TurnKept s (appendBytes m bytes s) := by
  rw [appendBytes_eq]
  exact (turnKept_chargeCells m (newCells (s.messages.read m).length bytes.length) s).trans (.of_eq rfl rfl)

/-! ## A message that ends: abort and SEAL (R77) -/

/-- A FILLING message is gone, and no other: its publisher fills none. -/
theorem fills_of_gone {m : MsgId} (hl : sixthLaw s) (hm : (s.messages.read m).state = .filling)
    (hgone : (t.messages.read m).state ≠ .filling)
    (hother : ∀ k, k ≠ m → ((t.messages.read k).state = .filling ↔ (s.messages.read k).state = .filling)
      ∧ ((t.messages.read k).state = .filling → (t.messages.read k).publisher = (s.messages.read k).publisher)) (h : HostId) :
    t.Fills h ↔ s.Fills h ∧ h ≠ (s.messages.read m).publisher := by
  constructor
  · rintro ⟨k, hk, hp⟩
    have hkm : k ≠ m := fun he => hgone (he ▸ hk)
    have hks := (hother k hkm).1.1 hk
    have hps := ((hother k hkm).2 hk).symm.trans hp
    exact ⟨⟨k, hks, hps⟩, fun hh => hkm ((hl m hm).2 k hks (hps.trans hh))⟩
  · rintro ⟨⟨k, hk, hp⟩, hne⟩
    have hkm : k ≠ m := by
      rintro rfl
      exact hne hp.symm
    have hkt := (hother k hkm).1.2 hk
    exact ⟨k, hkt, ((hother k hkm).2 hkt).trans hp⟩

theorem turns_of_gone {m : MsgId} (hs : s.Turns none) (hl : sixthLaw s) (hm : (s.messages.read m).state = .filling)
    (hk : TurnKept s t) (hgone : (t.messages.read m).state ≠ .filling)
    (hother : ∀ k, k ≠ m → ((t.messages.read k).state = .filling ↔ (s.messages.read k).state = .filling)
      ∧ ((t.messages.read k).state = .filling → (t.messages.read k).publisher = (s.messages.read k).publisher)) :
    t.Turns (some (s.messages.read m).publisher) :=
  hs.keep hk (fun h hh => ((fills_of_gone hl hm hgone hother h).1 hh).1) fun h hne hh =>
    (fills_of_gone hl hm hgone hother h).2 ⟨hh, fun he => hne (by rw [he])⟩

theorem turns_abortMessage {m : MsgId} (hs : s.Turns none) (hl : fillingLaw s) (hm : (s.messages.read m).state = .filling) :
    (abortMessage m s).Turns none := by
  have hgone := abortMessage_not_filling (hl.2 m hm)
  have hother := fun k (hk : k ≠ m) => abortMessage_others s hk
  rw [abortMessage_messages] at hgone
  simp only [abortMessage_messages] at hother
  rw [abortMessage_eq]
  refine turns_endTurnOf (turns_of_gone hs hl.1 hm ?_ ?_ fun k hk => ?_)
  · exact .trans (t := s.markAborted m) (.of_eq rfl rfl) ((turnKept_release m _).trans (.of_eq (by simp) (by simp)))
  · simpa using hgone
  · simp [hother k hk]

/-- A SEAL ends the turn of its publisher (R77). -/
theorem turns_seal {h : HostId} {m : MsgId} (hs : s.Turns none) (hd : s.Delivers) (hl : fillingLaw s)
    (hm : s.fillingOf h = some m) (n : Nat) :
    (endTurnOf h (countSeal h n (release m (sealMessage m s)))).Turns none := by
  obtain ⟨hfill, rfl⟩ := fillingOf_some hm
  have hsame := (delivering_sealMessage hd.laws hfill (hl.2 m hfill)).2
  have hmarked : ∀ k, k ≠ m → (s.marked m .sealed).messages.read k = s.messages.read k := fun k hk =>
    Table.read_write_ne _ _ hk
  have hsealed : ((sealMessage m s).messages.read m).state ≠ .filling := by
    rw [Ne, (hsame m).1, State.marked, Table.read_write_self]
    nofun
  refine turns_endTurnOf (turns_of_gone hs hl.1 hfill ?_ ?_ fun k hk => ?_)
  · refine TurnKept.trans (t := sealMessage m s) ?_ ((turnKept_release m _).trans (.of_eq (by simp) (by simp)))
    unfold sealMessage
    dsimp only
    split
    · exact .trans (t := s.marked m .sealed) (.of_eq rfl rfl) (turnKept_createDeliveries m _)
    · exact .of_eq rfl rfl
  · simp only [countSeal_frame, release_messages, Table.read_write_self]
    split
    · nofun
    · exact hsealed
  · simp only [countSeal_frame, release_message_ne hk]
    have hk' := hsame k
    rwa [hmarked k hk] at hk'

/-! ## Closes and teardowns -/

theorem fillingLaw_abortMessage (hl : fillingLaw s) (m : MsgId) : fillingLaw (abortMessage m s) :=
  (keepsFilling_abortMessage m s).law_of_members hl (by simp)

theorem turns_foldl_closeAbort {l : List MsgId} (hl : l.Nodup) (hs : s.Turns none) (hf : fillingLaw s)
    (hm : ∀ m ∈ l, (s.messages.read m).state = .filling) : (l.foldl (fun s m => closeAbort m s) s).Turns none := by
  induction l generalizing s with
  | nil => exact hs
  | cons m l ih =>
    obtain ⟨hml, hl⟩ := List.nodup_cons.1 hl
    have haborted := turns_abortMessage hs hf (hm m List.mem_cons_self)
    refine ih hl (turns_congr haborted (by simp [closeAbort]) (by simp [closeAbort]) (by simp [closeAbort]))
      ((KeepsFilling.of_eq (by simp [closeAbort])).law_of_members (fillingLaw_abortMessage hf m) (by simp [closeAbort]))
      fun k hk => ?_
    have hne : k ≠ m := fun he => hml (he ▸ hk)
    rw [closeAbort_message_ne s hne]
    exact hm k (.tail m hk)

theorem turns_closeChannel (hs : s.Turns none) (hf : fillingLaw s) (c : ChanId) : (closeChannel c s).Turns none := by
  have haborts : (closeAborts c s).Turns none :=
    turns_foldl_closeAbort ((List.nodup_finRange 128).filter _) hs hf fun m hm => by
      simp only [Table.mem_indices, Bool.and_eq_true, beq_iff_eq] at hm
      exact hm.1
  exact turns_congr haborts (foldl_keeps State.turn _ _ _ (by simp [closeSubscription]))
    (foldl_keeps State.claimants _ _ _ (by simp [closeSubscription]))
    (foldl_keeps State.messages _ _ _ (by simp [closeSubscription]))

theorem turns_silenced (hs : s.Turns none) (hd : s.Delivers) (hf : fillingLaw s) (h : HostId) :
    (s.silenced h).Turns none := by
  have hqueue : (s.unsubscribed h).Turns none := by
    refine turns_fillsSame hs ?_ (delivering_unsubscribed (delivering_dropRead hd.laws h) (dropRead_self h _)).2
    exact .trans (t := freeSubscriptionsOf h s) (.of_eq (by simp) (by simp)) (turnKept_removeEntries _ _ _)
  have hlaw : fillingLaw (s.unsubscribed h) :=
    (keepsFilling_unsubscribed h s).law_of_members hf (by simp [State.unsubscribed])
  refine turns_withdraw ?_ h
  unfold abortFillingOf
  split
  · next m hm => exact turns_abortMessage hqueue hlaw (fillingOf_some hm).1
  · exact hqueue

theorem turns_of_cleared (hc : Cleared s t) : t.Turns none := turns_of_none hc.turn.1 hc.turn.2.1 none

theorem turns_judgeVote (hs : s.Turns none) : (judgeVote s).Turns none := by
  unfold judgeVote
  split
  · exact hs
  split
  · exact turns_congr hs (by simp) (by simp) (by simp)
  split
  · exact turns_of_cleared (cleared_exchangeClear _)
  · exact hs

theorem turns_teardown (hs : s.Turns none) (hd : s.Delivers) (hf : fillingLaw s) (h : HostId) (final : Membership)
    (n : Notice) : (teardown h final n s).Turns none := by
  have hu : (dismantle h final s).Turns none := by
    rw [dismantle_eq]
    exact turns_congr (turns_silenced hs hd hf h) rfl rfl rfl
  rw [teardown_eq]
  unfold withdrawVote
  generalize dismantle h final s = u at hu ⊢
  have hjudged := turns_judgeVote (s := { u with vote := u.vote.map fun v =>
    { v with voters := HostSet.erase v.voters h } }) (turns_congr hu rfl rfl rfl)
  exact turns_congr hjudged (by simp) (by simp) (by simp)

/-! ## BEGIN (R62, R64, R114 to R116) -/

/-- A refused BEGIN makes a claimant of a host that fills no message. -/
theorem turns_arbitrated {h : HostId} (hs : s.Turns none) (hn : ¬ s.Fills h) (ha : (arbitrate h s).2 = false) :
    (arbitrate h s).1.Turns none := by
  obtain ⟨-, ho⟩ | ⟨-, d, ho, -⟩ | ⟨-, ho, g, d, ht⟩ := arbitrate_cases h s
  · rw [ho] at ha
    cases ha
  · rw [ho] at ha
    cases ha
  · rw [ho]
    have hholder : s.turn.holder = some g := by
      obtain ht | ⟨ht, -⟩ := ht <;> rw [ht] <;> rfl
    have hgh : g ≠ h := by
      obtain ht | ⟨-, hgh⟩ := ht
      · exact fun he => hn (he ▸ hs.inUse g d ht nofun)
      · exact hgh
    refine ⟨fun x hx => ?_, hs.inUse, hs.granted, fun x hx => ?_⟩
    · obtain rfl := Option.some.inj (hholder.symm.trans hx)
      rw [HostSet.read_insert, if_neg hgh]
      exact hs.holder g hholder
    · rw [HostSet.read_insert] at hx
      split at hx
      · next hxh => exact hxh ▸ hn
      · exact hs.claim x hx

/-- The turn once a BEGIN is admitted, before its message is made: the publisher holds it, if anyone does. -/
structure Admitted (h : HostId) (s : State) : Prop where
  holder : ∀ g, s.turn.holder = some g → s.claimants.read g = false
  inUse : ∀ g d, s.turn = .inUse g d → g = h ∨ s.Fills g
  granted : ∀ g d, s.turn = .granted g d → g ≠ h ∧ ¬ s.Fills g
  claim : ∀ g, s.claimants.read g = true → g ≠ h ∧ ¬ s.Fills g

theorem admitted_arbitrate {h : HostId} (hr : turnRecordLaw s) (hs : s.Turns none) (ha : (arbitrate h s).2 = true) :
    Admitted h (arbitrate h s).1 := by
  obtain ⟨hidle, hclaim, -⟩ := hr
  obtain ⟨hr, ho⟩ | ⟨-, d, ho, ht⟩ | ⟨-, ho, -⟩ := arbitrate_cases h s
  · obtain ⟨ht, hc⟩ := hidle hr
    rw [ho]
    exact ⟨hs.holder, fun g d hu => by simp [ht] at hu, fun g d hg => by simp [ht] at hg, fun g hg => by simp [hc] at hg⟩
  · have hh : s.claimants.read h = false := by
      obtain ⟨ht, -⟩ | ht := ht
      · have hnone : s.claimants = noHosts := not_not.1 fun hne => hclaim hne ht
        simp [hnone]
      · exact hs.holder h (by rw [ht]; rfl)
    rw [ho]
    refine ⟨fun g hg => ?_, fun g d' hu => ?_, nofun, fun g hg => ⟨fun hgh => ?_, hs.claim g hg⟩⟩
    · cases hg
      exact hh
    · cases hu
      exact .inl rfl
    · rw [hgh] at hg
      cases hh.symm.trans hg
  · rw [ho] at ha
    cases ha

/-- The message begun is the publisher's (R64). -/
theorem turns_startMessage {h : HostId} {r : Request} {i : ChanId} {m : MsgId} (hs : Admitted h s) (hd : s.Delivers)
    (hm : (s.messages.read m).state = .vacant) (hi : (s.channels.read i).state = .opened) :
    (startMessage h r i m s).Turns none := by
  have hsame := (delivering_startMessage (h := h) (r := r) hd.laws hm hi).2
  have hbegun : ∀ g, (s.begun h r i m).Fills g ↔ s.Fills g ∨ g = h := fun g => by
    constructor
    · rintro ⟨k, hk, hp⟩
      rw [begun_message] at hk hp
      split at hk
      · next hkm => exact .inr (by simpa [hkm, newMessage] using hp.symm)
      · next hkm => exact .inl ⟨k, hk, by simpa [hkm] using hp⟩
    · rintro (⟨k, hk, hp⟩ | rfl)
      · have hkm : k ≠ m := by
          rintro rfl
          cases hk.symm.trans hm
        exact ⟨k, by rw [begun_message, if_neg hkm]; exact hk, by rw [begun_message, if_neg hkm]; exact hp⟩
      · exact ⟨m, by rw [begun_message, if_pos rfl]; rfl, by rw [begun_message, if_pos rfl]; rfl⟩
  have hbegunTurns : (s.begun h r i m).Turns none :=
    ⟨hs.holder, fun g d hu _ => (hbegun g).2 ((hs.inUse g d hu).symm),
      fun g d hg hf => ((hbegun g).1 hf).elim (hs.granted g d hg).2 (hs.granted g d hg).1,
      fun g hg hf => ((hbegun g).1 hf).elim (hs.claim g hg).2 (hs.claim g hg).1⟩
  refine turns_fillsSame hbegunTurns ?_ hsame
  unfold startMessage
  dsimp only
  split
  · exact turnKept_createDeliveries m _
  · exact .refl _

end Sys2Proof.Machine
end

section
/-! SUPPORT. Soundness as a whole: the turn over every effect and every step, and the laws together (R113, R188). -/

namespace Sys2Proof.Machine

variable {held : List MsgId} {pend : HostId → Option PendingResult} {s t u : State}

/-! ## The turn record, effect by effect -/

theorem turnRecordLaw_of_eq (hl : turnRecordLaw s) (hr : t.rationed = s.rationed) (ht : t.turn = s.turn)
    (hc : t.claimants = s.claimants) (hj : ∀ g, s.isJoined g = true → t.isJoined g = true) : turnRecordLaw t := by
  obtain ⟨hidle, hclaim, hholder, hclaimants⟩ := hl
  exact ⟨by rw [hr, ht, hc]; exact hidle, by rw [ht, hc]; exact hclaim, fun g hg => hj g (hholder g (ht ▸ hg)),
    fun g hg => hj g (hclaimants g (hc ▸ hg))⟩

theorem turnRecordLaw_effect {F : Prop} {c : Instr} (he : Effect F c s t) (hl : turnRecordLaw s) : turnRecordLaw t := by
  have of_eq : t.rationed = s.rationed → t.turn = s.turn → t.claimants = s.claimants →
      (∀ g, s.isJoined g = true → t.isJoined g = true) → turnRecordLaw t := turnRecordLaw_of_eq hl
  cases he with
  | links ht => exact (keepsSchedule_of_withLinks ht.same).turn hl
  | judged => exact (keepsSchedule_judgeVote s).turn hl
  | admitted r => exact of_eq rfl rfl rfl fun g hg => by simp [admitMember_isJoined, hg]
  | departed final n => exact (keepsSchedule_teardown _ final n s).turn hl
  | setLease b => exact (keepsSchedule_storeLease _ s b).turn hl
  | setMask => exact (keepsSchedule_modMember_of_same _ s (by intro _; exact ⟨rfl, rfl⟩)).turn hl
  | setThreshold b => exact (keepsSchedule_storeThreshold _ s b).turn hl
  | reevaluated => exact (keepsSchedule_reevaluate s).turn hl
  | renewed h => exact (keepsSchedule_renewLease h s).turn hl
  | tookHead =>
    rw [answerTakeHead_eq]
    exact turnRecordLaw_of_eq hl rfl rfl rfl fun _ hg => hg
  | committedTake =>
    exact ((keepsSchedule_of_withLinks (settlesLinks_closeTransaction _ s).same).trans (keepsSchedule_commitTake _ _ _)).turn hl
  | committedNotice p => exact (keepsSchedule_commitFetchNotice _ s p).turn hl
  | committedCounter p => exact (keepsSchedule_commitReadCounter _ s p).turn hl
  | voided =>
    exact ((keepsSchedule_of_withLinks (settlesLinks_closeTransaction _ s).same).trans (keepsSchedule_voidRead _ _)).turn hl
  | closedChannel => exact (keepsSchedule_closeChannel s _).turn hl
  | unsubscribed => exact ((keepsSchedule_removeEntries _ _ s).trans (keepsSchedule_freeSubscription _ _)).turn hl
  | arbitrated hj => exact (keepsSchedule_arbitrate hj).turn hl
  | began hj => exact ((keepsSchedule_arbitrate hj).trans (keepsSchedule_startMessage _ _ _ _ _)).turn hl
  | put => exact (keepsSchedule_appendBytes _ _ s).turn hl
  | @sealed h m =>
    exact ((((keepsSchedule_sealMessage s m).trans (keepsSchedule_release m _)).trans
      (keepsSchedule_countSeal h _ _)).trans (keepsSchedule_endTurnOf h _)).turn hl
  | aborted => exact (keepsSchedule_abortMessage _ s).turn hl
  | skipped => exact (keepsSchedule_removeEntry _ _ s).turn hl
  | turnEnded => exact (keepsSchedule_endTurn s).turn hl
  | reset ht => exact (keepsSchedule_deviceReset ht).turn hl
  | _ => exact of_eq (by simp) (by simp) (by simp) fun g hg => (isJoined_of_members_eq (by simp) g).trans hg

/-! ## The turn and the FILLING messages, effect by effect -/

/-- The commit of a TAKE ends no message that is FILLING. -/
theorem fillsSame_commitTake {h : HostId} {p : PendingResult} (hd : s.Delivering held pend) (hp : pend h = some p) :
    FillsSame s (commitTake h p.commit s) := by
  unfold commitTake
  split
  · next e n last o hcommit =>
    obtain ⟨hhead, -⟩ := hd.reads.head h p e hp ⟨_, _, _, _, hcommit, .inl rfl⟩
    obtain ⟨-, hn, -⟩ := hd.reads.commit h p e _ _ _ _ hp hcommit
    have hmoved := delivering_advance hd n hhead (hn rfl)
    dsimp only
    split
    · exact FillsSame.trans (.of_eq rfl)
        ((fillsSame_removeEntry hmoved (List.mem_of_mem_head? hhead)).trans (.of_eq (by simp)))
    · exact .of_eq rfl
  · next e n last o hcommit =>
    obtain ⟨hhead, -⟩ := hd.reads.head h p e hp ⟨_, _, _, _, hcommit, .inr rfl⟩
    exact fillsSame_removeEntry hd (List.mem_of_mem_head? hhead)
  · exact .refl s

theorem turnKept_commitTake (h : HostId) (p : Commit) (s : State) : TurnKept s (commitTake h p s) := by
  unfold commitTake
  split
  · next e n last _ =>
    dsimp only
    split
    · exact .trans (t := s.modEntry e fun x => { x with offset := x.offset + n }) (.of_eq rfl rfl)
        ((turnKept_removeEntry h e _).trans (.of_eq (by simp) (by simp)))
    · exact .of_eq rfl rfl
  · exact turnKept_removeEntry h _ s
  · exact .refl s

/-- An append is the same message's (R69). -/
theorem fillsSame_appendBytes (m : MsgId) (bytes : List Byte) (s : State) : FillsSame s (appendBytes m bytes s) := by
  obtain ⟨hd, tl, n, hm⟩ := appendBytes_messages m bytes s
  exact .write hm ⟨Iff.rfl, fun _ => rfl⟩

/-- An UNSUBSCRIBE's purge frees no message that is FILLING (R50). -/
theorem turns_unsubscribed (hs : s.Turns none) (hd : s.Delivers) (h : HostId) (i : SubId) (purge : Bool) :
    (freeSubscription i (removeEntries h (s.purged h i purge) s)).Turns none := by
  have hpurged := (delivering_removeEntries hd.laws (purged_nodup hd.laws.queues h i purge)
    (fun x hx => (purged_mem hx).1) (.inr fun x hx => (purged_mem hx).2)).2
  exact turns_congr (turns_fillsSame hs (turnKept_removeEntries _ _ _) hpurged) rfl rfl rfl

theorem turns_effect {F : Prop} {c : Instr} (he : Effect F c s t) (hd : s.Delivers) (hf : fillingLaw s)
    (hr : turnRecordLaw s) (hs : s.Turns none) : t.Turns none := by
  cases he with
  | judged => exact turns_judgeVote hs
  | links ht =>
    rw [ht.same]
    exact turns_congr hs rfl rfl rfl
  | admitted r => exact turns_congr hs rfl rfl rfl
  | departed final n => exact turns_teardown hs hd hf _ final n
  | setThreshold b =>
    unfold storeThreshold
    dsimp only
    split
    · exact turns_congr hs rfl rfl rfl
    · exact turns_congr hs rfl rfl rfl
  | reevaluated => exact turns_fillsSame hs (turnKept_reevaluate s) (.of_eq (by simp))
  | tookHead =>
    rw [answerTakeHead_eq]
    exact turns_congr hs rfl rfl rfl
  | @committedTake h p _ hp =>
    have hclosed := turns_congr (t := closeTransaction h s) hs (by simp) (by simp) (by simp)
    exact turns_fillsSame hclosed (turnKept_commitTake _ _ _) (fillsSame_commitTake (delivering_closeTransaction hd h) hp)
  | committedNotice p =>
    unfold commitFetchNotice
    split
    · exact turns_congr hs rfl rfl rfl
    · exact hs
  | committedCounter p =>
    unfold commitReadCounter
    split
    · exact turns_congr hs rfl rfl rfl
    · exact hs
  | voided => exact turns_congr hs (by simp [voidRead_eq]) (by simp [voidRead_eq]) (by simp [voidRead_eq])
  | closedChannel => exact turns_closeChannel hs hf _
  | @unsubscribed h i _ purge => exact turns_unsubscribed hs hd h i purge
  | arbitrated _ hn ha => exact turns_arbitrated hs ((fillingOf_eq_none_iff s _).1 hn) ha
  | @began h r i m _ _ _ ha hi hm =>
    have hd' := delivers_congr (t := (arbitrate h s).1) hd (by simp) (by simp) (by simp) (by simp) (by simp) (by simp)
    exact turns_startMessage (admitted_arbitrate hr hs ha) hd' (by simpa using hm) (by simpa using hi)
  | put => exact turns_fillsSame hs (turnKept_appendBytes _ _ s) (fillsSame_appendBytes _ _ s)
  | sealed hm => exact turns_seal hs hd hf hm _
  | aborted hm => exact turns_abortMessage hs hf (fillingOf_some hm).1
  | skipped _ he =>
    exact turns_fillsSame hs (turnKept_removeEntry _ _ s) (fillsSame_removeEntry hd.laws (List.mem_of_mem_head? he))
  | turnEnded => exact turns_endTurn hs
  | reset ht =>
    rw [next_eq_of_eq (execDeviceReset_eq s) ht]
    exact turns_of_none rfl rfl none
  | _ => exact turns_congr hs (by simp) (by simp) (by simp)

/-- Every step keeps the law of the turn in a state whose deliveries and FILLING messages are in order. -/
theorem turnLaw_step (hd : deliveryLaw s) (hl : turnLaw s) (ht : step s = .next t) : turnLaw t := by
  rw [turnLaw_iff] at hl ⊢
  rw [deliveryLaw_iff] at hd
  obtain ⟨hlaws, -, -, hfill, hlink⟩ := hd
  obtain ⟨-, -, hr, hs⟩ := step_keeps
    (P := fun u => u.Delivers ∧ fillingLaw u ∧ turnRecordLaw u ∧ u.Turns none)
    (fun _ _ hu => ⟨delivers_congr hu.1 rfl rfl rfl rfl rfl rfl, hu.2.1, hu.2.2.1, turns_congr hu.2.2.2 rfl rfl rfl⟩)
    (fun _ _ _ he hu => ⟨delivers_effect he hu.2.1 hu.1, fillingLaw_effect he hu.2.1, turnRecordLaw_effect he hu.2.2.1,
      turns_effect he hu.1 hu.2.1 hu.2.2.1 hu.2.2.2⟩)
    ⟨⟨hlaws, fun h => (hlink h).2.2.2.2.1⟩, hfill, hl⟩ ht
  exact ⟨hr, hs⟩

/-- A DRAINING channel has a live message, by the law of the Channel Table. -/
theorem eighthLaw_of_channelTable (hl : channelTableLaw s) : eighthLaw s := fun c hc => Nat.pos_of_ne_zero (hl.2.2.2 c hc)

/-- Settles O60: the laws of the pool, of the deliveries and of the departed hosts are kept each by itself, that of the
turn beside the deliveries, and the rest by earlier statements. -/
theorem stepKeepsSound : Obligations.StepKeepsSound := by
  intro s t ⟨hstorage, hdelivery, hturn, hdeparted, _, heleventh, htwelfth, hpool, hdeadline⟩ ht
  have hdelivery' := stepKeepsDeliveries s t hdelivery ht
  have hfill : fillingLaw s := ((deliveryLaw_iff s).1 hdelivery).2.2.2.1
  obtain ⟨-, hchan, -⟩ := (deliveryLaw_iff t).1 hdelivery'
  exact ⟨stepKeepsStorage s t hstorage ht, hdelivery', turnLaw_step hdelivery hturn ht,
    (stepKeepsDeparted s t hfill hdeparted ht).2, eighthLaw_of_channelTable hchan,
    (stepKeepsVoteAndNoticeLaws s t ht).1 heleventh, (stepKeepsVoteAndNoticeLaws s t ht).2 htwelfth,
    stepKeepsPoolForm s t hpool ht, (keepsSchedule_step ht).deadlines hdeadline⟩

end Sys2Proof.Machine
end


section
/-! SUPPORT. The state after reset: every table is blank, nobody is JOINED, and so every law holds. -/

namespace Sys2Proof.Machine

theorem reset_isJoined (h : HostId) : State.reset.isJoined h = false := by simp [State.isJoined, State.reset, Member.reset]

theorem reset_message (m : MsgId) : State.reset.messages.read m = Message.vacant := Table.read_replicate _ m

theorem reset_sub (i : SubId) : State.reset.subs.read i = Subscription.free := Table.read_replicate _ i

theorem linkLaw_reset : linkLaw State.reset := fun h =>
  framerLaw_of_idle (by rw [reset_link]; rfl) (by rw [reset_link]; rfl)

theorem channelTableLaw_reset : channelTableLaw State.reset := by
  refine ⟨?_, ?_, ?_, ?_⟩ <;> simp [State.reset, Channel.closed]

theorem subscriptionTableLaw_reset : subscriptionTableLaw State.reset :=
  ⟨fun i _ => reset_sub i, fun i hi => absurd (by rw [reset_sub]; rfl) hi⟩

theorem fillingLaw_reset : fillingLaw State.reset := by
  have hnone : ∀ m, (State.reset.messages.read m).state ≠ .filling := fun m => by
    rw [reset_message]
    nofun
  exact ⟨fun m hm => absurd hm (hnone m), fun m hm => absurd hm (hnone m)⟩

theorem turnRecordLaw_reset : turnRecordLaw State.reset :=
  ⟨fun _ => ⟨rfl, rfl⟩, fun h => absurd rfl h, nofun, fun h hh => by simp [State.reset, noHosts] at hh⟩

theorem deadlineLaw_reset : deadlineLaw State.reset :=
  ⟨fun h _ hj _ => absurd hj (by simp [reset_isJoined]), nofun, nofun⟩

theorem storageLaw_reset : storageLaw State.reset :=
  (storageLaw_iff _).2 ⟨stored_of_empty reset_message (Table.read_replicate _) reset_freeList
    fun h => congrArg Account.charge (Table.read_replicate _ h), linkLaw_reset⟩

theorem deliveryLaw_reset : deliveryLaw State.reset := by
  have hreads : ∀ h, State.reset.reads h = none := fun h => by
    rw [State.reads, reset_link]
    rfl
  have hd : State.reset.Delivers := delivers_of_empty reset_message (Table.read_replicate _) reset_sub
    (Table.read_replicate _) (Table.read_replicate _) hreads
  exact (deliveryLaw_iff _).2 ⟨hd.laws, channelTableLaw_reset, subscriptionTableLaw_reset, fillingLaw_reset,
    linkLaw_reset⟩

/-- Settles O50: law by law, each on blank tables. -/
theorem resetIsSound : Obligations.ResetIsSound := by
  have hturn : turnLaw State.reset := (turnLaw_iff _).2 ⟨turnRecordLaw_reset, turns_of_none rfl rfl none⟩
  have hdeparted : departedLaw State.reset := (departedLaw_iff _).2 fun h _ => absent_reset h
  have htwelfth : twelfthLaw State.reset := fun h => by
    rw [reset_desk]
    exact Nat.zero_le _
  exact ⟨⟨storageLaw_reset, deliveryLaw_reset, hturn, hdeparted, eighthLaw_of_channelTable channelTableLaw_reset,
    nofun, htwelfth, State.reset_pool_wf, deadlineLaw_reset⟩, turnRecordLaw_reset⟩

end Sys2Proof.Machine
end


section
/-! SUPPORT. Who writes the slow registers: the parameters, the quotas, the host records and the last link errors. Almost
every effect of a command leaves them all alone. -/

namespace Sys2Proof.Machine

/-! ## The slow registers -/

/-- A host record without its lease deadline, which every good header of its link sets anew (R151). -/
def Member.settings (x : Member) : Member := { x with leaseDeadline := none }

/-- The slow registers all together. -/
def State.slow (s : State) : Params × (HostId → Member) × (HostId → Nat) × (HostId → LinkFault × Byte) :=
  (s.params, fun g => (s.members.read g).settings, fun g => (s.accounts.read g).quota,
    fun g => ((s.links.read g).lastFault, (s.links.read g).faultSerial))

/-- What a command keeps of the slow registers, by its name. -/
def SlowKept (c : Instr) (s t : State) : Prop :=
  ((∀ g, c ≠ .setReserveThreshold g ∧ c ≠ .setTurnWindow g ∧ c ≠ .setVoteWindow g ∧ c ≠ .setPrecedence g
      ∧ c ≠ .setQuotaCeiling g) → t.params = s.params)
    ∧ ∀ h,
      (c ≠ .setAttentionMask h → (t.members.read h).mask = (s.members.read h).mask)
        ∧ (c ≠ .join h → (t.accounts.read h).quota = (s.accounts.read h).quota)
        ∧ (c ≠ .join h → c ≠ .setCreditThreshold h →
            (t.members.read h).creditThreshold = (s.members.read h).creditThreshold)
        ∧ (c ≠ .join h → c ≠ .setLeasePeriod h → (t.members.read h).leasePeriod = (s.members.read h).leasePeriod)
        ∧ (c ≠ .join h → c ≠ .leave h → c ≠ .leaseExpiry h → (t.members.read h).state = (s.members.read h).state)
        ∧ ((∀ b, c ≠ .headerBadCheck h b) → c ≠ .transactionVoid h →
            (t.links.read h).lastFault = (s.links.read h).lastFault
              ∧ (t.links.read h).faultSerial = (s.links.read h).faultSerial)

section
variable {c : Instr} {s t u : State}

theorem SlowKept.refl (c : Instr) (s : State) : SlowKept c s s :=
  ⟨fun _ => rfl, fun _ => ⟨fun _ => rfl, fun _ => rfl, fun _ _ => rfl, fun _ _ => rfl, fun _ _ _ => rfl,
    fun _ _ => ⟨rfl, rfl⟩⟩⟩

theorem SlowKept.trans (hst : SlowKept c s t) (htu : SlowKept c t u) : SlowKept c s u := by
  refine ⟨fun hc => (htu.1 hc).trans (hst.1 hc), fun h => ?_⟩
  obtain ⟨mask, quota, threshold, period, state, fault⟩ := hst.2 h
  obtain ⟨mask', quota', threshold', period', state', fault'⟩ := htu.2 h
  exact ⟨fun a => (mask' a).trans (mask a), fun a => (quota' a).trans (quota a),
    fun a b => (threshold' a b).trans (threshold a b), fun a b => (period' a b).trans (period a b),
    fun a b d => (state' a b d).trans (state a b d),
    fun a b => ⟨(fault' a b).1.trans (fault a b).1, (fault' a b).2.trans (fault a b).2⟩⟩

theorem slow_of_eq (hp : t.params = s.params)
    (hm : ∀ g, (t.members.read g).settings = (s.members.read g).settings)
    (hq : ∀ g, (t.accounts.read g).quota = (s.accounts.read g).quota)
    (hf : ∀ g, (t.links.read g).lastFault = (s.links.read g).lastFault
      ∧ (t.links.read g).faultSerial = (s.links.read g).faultSerial) : t.slow = s.slow := by
  have hf' : (fun g => ((t.links.read g).lastFault, (t.links.read g).faultSerial))
      = fun g => ((s.links.read g).lastFault, (s.links.read g).faultSerial) := funext fun g => by rw [(hf g).1, (hf g).2]
  rw [State.slow, hp, funext hm, funext hq, hf']
  rfl

theorem slow_of_quota (hp : t.params = s.params) (hm : t.members = s.members)
    (hq : ∀ g, (t.accounts.read g).quota = (s.accounts.read g).quota) (hl : t.links = s.links) : t.slow = s.slow :=
  slow_of_eq hp (fun _ => by rw [hm]) hq fun _ => by rw [hl]; exact ⟨rfl, rfl⟩

theorem slow_of_tables (hp : t.params = s.params) (hm : t.members = s.members) (ha : t.accounts = s.accounts)
    (hl : t.links = s.links) : t.slow = s.slow := slow_of_quota hp hm (fun _ => by rw [ha]) hl

/-- One link changes, and keeps its last link error. -/
theorem slow_modLink (s : State) (h : HostId) {f : Link → Link}
    (hf : ∀ l, (f l).lastFault = l.lastFault ∧ (f l).faultSerial = l.faultSerial) : (s.modLink h f).slow = s.slow := by
  refine slow_of_eq rfl (fun _ => rfl) (fun _ => rfl) fun g => ?_
  rw [State.modLink_links, Table.read_update]
  split
  · next hg => rw [hg]; exact hf _
  · exact ⟨rfl, rfl⟩

theorem SlowKept.of_slow (hs : t.slow = s.slow) : SlowKept c s t := by
  have hp : t.params = s.params := congrArg Prod.fst hs
  have hm : ∀ g, (t.members.read g).settings = (s.members.read g).settings := congrFun (congrArg (·.2.1) hs)
  have hq : ∀ g, (t.accounts.read g).quota = (s.accounts.read g).quota := congrFun (congrArg (·.2.2.1) hs)
  have hf : ∀ g, ((t.links.read g).lastFault, (t.links.read g).faultSerial)
      = ((s.links.read g).lastFault, (s.links.read g).faultSerial) := congrFun (congrArg (·.2.2.2) hs)
  have hset {β : Type} (f : Member → β) (g : HostId) (hset : ∀ x, f x.settings = f x) :
      f (t.members.read g) = f (s.members.read g) := by rw [← hset, hm g, hset]
  exact ⟨fun _ => hp, fun h => ⟨fun _ => hset Member.mask h fun _ => rfl, fun _ => hq h,
    fun _ _ => hset Member.creditThreshold h fun _ => rfl, fun _ _ => hset Member.leasePeriod h fun _ => rfl,
    fun _ _ _ => hset Member.state h fun _ => rfl,
    fun _ _ => ⟨congrArg Prod.fst (hf h), congrArg Prod.snd (hf h)⟩⟩⟩

/-- One host's record changes, in what its command owns. -/
theorem SlowKept.of_member {h : HostId} (hp : t.params = s.params) (hl : t.links = s.links)
    (hm : ∀ g, g ≠ h → t.members.read g = s.members.read g)
    (hq : ∀ g, (c ≠ .join g) → (t.accounts.read g).quota = (s.accounts.read g).quota)
    (hmask : c ≠ .setAttentionMask h → (t.members.read h).mask = (s.members.read h).mask)
    (hthreshold : c ≠ .join h → c ≠ .setCreditThreshold h →
      (t.members.read h).creditThreshold = (s.members.read h).creditThreshold)
    (hperiod : c ≠ .join h → c ≠ .setLeasePeriod h → (t.members.read h).leasePeriod = (s.members.read h).leasePeriod)
    (hstate : c ≠ .join h → (t.members.read h).state = (s.members.read h).state) : SlowKept c s t := by
  refine ⟨fun _ => hp, fun g => ?_⟩
  rw [hl]
  by_cases hg : g = h
  · subst hg
    exact ⟨hmask, hq g, hthreshold, hperiod, fun a _ _ => hstate a, fun _ _ => ⟨rfl, rfl⟩⟩
  · rw [hm g hg]
    exact ⟨fun _ => rfl, hq g, fun _ _ => rfl, fun _ _ => rfl, fun _ _ _ => rfl, fun _ _ => ⟨rfl, rfl⟩⟩

/-! ## Quotas -/

theorem setCharge_quota (h : HostId) (n : Nat) (s : State) (g : HostId) :
    ((setCharge h n s).accounts.read g).quota = (s.accounts.read g).quota := by
  by_cases hg : g = h
  · rw [hg, (setCharge_account h n s).1]
  · rw [(setCharge_others n s hg).1]

theorem takeCells_accounts {k : Nat} {run : List CellId} (ht : takeCells k s = some (run, t)) : t.accounts = s.accounts := by
  unfold takeCells at ht
  split at ht <;> cases ht
  simp

theorem chargeCells_quota (m : MsgId) (k : Nat) (s : State) (g : HostId) :
    ((chargeCells m k s).accounts.read g).quota = (s.accounts.read g).quota := by
  unfold chargeCells
  split
  · rfl
  split
  · rfl
  next run t ht =>
    dsimp only
    rw [show ∀ u, (attachRun m run u).accounts = u.accounts by simp, show ∀ u, (reevaluate u).accounts = u.accounts by simp,
      setCharge_quota, takeCells_accounts ht]

theorem appendBytes_quota (m : MsgId) (bytes : List Byte) (s : State) (g : HostId) :
    ((appendBytes m bytes s).accounts.read g).quota = (s.accounts.read g).quota := by
  rw [appendBytes_eq]
  exact chargeCells_quota m _ s g

theorem removeEntries_quota (h : HostId) (es : List EntryId) (s : State) (g : HostId) :
    ((removeEntries h es s).accounts.read g).quota = (s.accounts.read g).quota :=
  foldl_keeps (fun s : State => (s.accounts.read g).quota) _ _ _ fun s e => removeEntry_quota h e s g

theorem deliver_quota (m : MsgId) (h : HostId) (i : SubId) (s : State) (g : HostId) :
    ((deliver m h i s).accounts.read g).quota = (s.accounts.read g).quota := by
  obtain ⟨-, e, -, he⟩ | ⟨n, he⟩ | ⟨-, -, e, -, he⟩ := deliver_cases m h i s <;> rw [he]
  · simp
  · simp
  · rw [displace, show ∀ u, (appendEntry h m i e u).accounts = u.accounts by simp,
      show ∀ n u, (reportDrop h n u).accounts = u.accounts by simp, removeEntry_quota]

theorem createDeliveries_quota (m : MsgId) (s : State) (g : HostId) :
    ((createDeliveries m s).accounts.read g).quota = (s.accounts.read g).quota :=
  foldl_keeps (fun s : State => (s.accounts.read g).quota) _ _ _ fun s x => deliver_quota m x.1 x.2 s g

/-! ## The effects that leave the slow registers alone -/

theorem slow_links (hs : SettlesLinks s t) : t.slow = s.slow := by
  obtain ⟨same, hlinks⟩ := hs
  have hp := congrArg State.params same
  have hm := congrArg State.members same
  have ha := congrArg State.accounts same
  exact slow_of_eq hp (fun g => by rw [hm]; rfl) (fun g => by rw [ha]; rfl) fun g => (hlinks g).fault

theorem slow_of_cleared (hc : Cleared s t) : t.slow = s.slow := by
  obtain ⟨-, -, -, -, hmembers, hparams⟩ := hc.frame
  refine slow_of_eq hparams (fun g => by rw [hmembers]) (fun g => by rw [hc.accounts g]) fun g => ?_
  rw [hc.links g, cutOff_eq_voidByEvent]
  exact (Link.settles_voidByEvent _).fault

theorem slow_judgeVote (s : State) : (judgeVote s).slow = s.slow := by
  unfold judgeVote
  split
  · rfl
  split
  · exact slow_of_tables (by simp) (by simp) (by simp) (by simp)
  split
  · exact slow_of_cleared (s := { s with vote := none }) (cleared_exchangeClear _)
  · rfl

theorem slow_renewLease (h : HostId) (s : State) : (renewLease h s).slow = s.slow := by
  refine slow_of_eq (by simp) (fun g => ?_) (fun g => by simp) fun g => by simp
  rw [renewLease_eq]
  by_cases hg : g = h
  · rw [hg, Table.read_write_self, Member.renewed]
    split <;> rfl
  · rw [Table.read_write_ne _ _ hg]

theorem slow_respond (h : HostId) (p : PendingResult) (s : State) : (respond h p s).slow = s.slow :=
  slow_modLink s h fun _ => ⟨rfl, rfl⟩

theorem slow_answerTakeHead (h : HostId) (n : Nat) (e : EntryId) (s : State) : (answerTakeHead h n e s).slow = s.slow := by
  unfold answerTakeHead
  dsimp only
  rw [slow_respond]
  split <;> rfl

theorem slow_commitTake (h : HostId) (c : Commit) (s : State) : (commitTake h c s).slow = s.slow := by
  refine slow_of_quota ?_ (commitTake_members h c s) (fun g => ?_) (commitTake_links h s c)
  all_goals
    unfold commitTake
    split
  · dsimp only
    split <;> simp
  · simp
  · rfl
  · dsimp only
    split
    · rw [show ∀ u, (countTaken h u).accounts = u.accounts by simp, removeEntry_quota]
      rfl
    · rfl
  · exact removeEntry_quota h _ s g
  · rfl

theorem slow_closeTransaction (h : HostId) (s : State) : (closeTransaction h s).slow = s.slow :=
  slow_links (settlesLinks_closeTransaction h s)

theorem slow_closeChannel (i : ChanId) (s : State) : (closeChannel i s).slow = s.slow := by
  refine slow_of_quota ?_ (closeChannel_members i s) (fun g => ?_) (closeChannel_links s i)
  · have haborts : (closeAborts i s).params = s.params := foldl_keeps State.params _ _ _ (by simp [closeAbort])
    exact (foldl_keeps State.params _ _ _ (by simp [closeSubscription])).trans haborts
  · have haborts : ((closeAborts i s).accounts.read g).quota = (s.accounts.read g).quota :=
      foldl_keeps (fun s : State => (s.accounts.read g).quota) _ _ _ fun u m => by
        rw [closeAbort, show ∀ g n u, (post g n u).accounts = u.accounts by simp, abortMessage_quota]
    exact (foldl_keeps (fun s : State => (s.accounts.read g).quota) _ _ _ (by simp [closeSubscription])).trans haborts

theorem slow_startMessage (h : HostId) (r : Request) (i : ChanId) (m : MsgId) (s : State) :
    (startMessage h r i m s).slow = s.slow := by
  unfold startMessage
  dsimp only
  split
  · exact slow_of_quota (by simp) (by simp) (fun g => by rw [createDeliveries_quota]; rfl) (by simp)
  · rfl

theorem slow_sealMessage (m : MsgId) (s : State) : (sealMessage m s).slow = s.slow := by
  unfold sealMessage
  dsimp only
  split
  · exact slow_of_quota (by simp) (by simp) (fun g => by rw [createDeliveries_quota]; rfl) (by simp)
  · rfl

theorem slow_release (m : MsgId) (s : State) : (release m s).slow = s.slow :=
  slow_of_quota (by simp) (by simp) (release_quota m s) (by simp)

/-! ## The effects that write one of them -/

/-- A departure writes the departed host's state, and its teardown or the clear after it no other register. -/
theorem slowKept_teardown {h : HostId} {final : Membership} (n : Notice) (s : State) (hf : final ≠ .joined)
    (hc : c = .leave h ∨ c = .leaseExpiry h) : SlowKept c s (teardown h final n s) := by
  have hlinks : ∀ g, (s.links.read g).Settles ((dismantle h final s).links.read g) := fun g => by
    rw [dismantle_links, Table.read_write]
    split
    · next hg =>
      rw [hg, cutOff_eq_voidByEvent]
      exact Link.settles_voidByEvent _
    · exact .refl _
  have hfault : ∀ g, ((teardown h final n s).links.read g).lastFault = (s.links.read g).lastFault
      ∧ ((teardown h final n s).links.read g).faultSerial = (s.links.read g).faultSerial := fun g => by
    obtain ⟨-, -, -, -, -, -, -, ht⟩ | ⟨-, -, -, -, -, -, -, ht⟩ := teardown_tables n s hf
    · rw [ht]
      exact (hlinks g).fault
    · rw [ht g, cutOff_eq_voidByEvent, (Link.settles_voidByEvent _).fault.1, (Link.settles_voidByEvent _).fault.2]
      exact (hlinks g).fault
  have hmember : ∀ g, (teardown h final n s).members.read g =
      if g = h then { s.members.read h with state := final, leaseDeadline := none } else s.members.read g := fun g => by
    rw [teardown_members, Table.read_write]
  refine ⟨fun _ => by simp, fun g => ?_⟩
  by_cases hg : g = h
  · subst hg
    rw [hmember g, if_pos rfl]
    exact ⟨fun _ => rfl, fun _ => teardown_quota n s hf g, fun _ _ => rfl, fun _ _ => rfl,
      fun _ hleave hlapse => (hc.elim hleave hlapse).elim, fun _ _ => hfault g⟩
  · rw [hmember g, if_neg hg]
    exact ⟨fun _ => rfl, fun _ => teardown_quota n s hf g, fun _ _ => rfl, fun _ _ => rfl, fun _ _ _ => rfl,
      fun _ _ => hfault g⟩

theorem slowKept_storeThreshold (h : HostId) (b : Word16) (s : State) :
    SlowKept (.setCreditThreshold h) s (storeThreshold h b s) := by
  have hm : ∀ g, (storeThreshold h b s).members.read g =
      if g = h then { s.members.read h with creditThreshold := b.toNat } else s.members.read g := fun g => by
    rw [storeThreshold_member, Table.read_update]
  have hp : (storeThreshold h b s).params = s.params := by
    unfold storeThreshold
    dsimp only
    split <;> simp
  have hq : ∀ g, ((storeThreshold h b s).accounts.read g).quota = (s.accounts.read g).quota := fun g => by
    unfold storeThreshold
    dsimp only
    split
    · simp only [latch_frame, State.modAccount_accounts, State.modMember_accounts, Table.read_update]
      split
      · next hg => rw [hg]
      · rfl
    · rfl
  exact .of_member (h := h) hp (storeThreshold_links h s b) (fun g hg => by rw [hm, if_neg hg]) (fun g _ => hq g)
    (fun _ => by rw [hm, if_pos rfl]) (fun _ hs => absurd rfl hs) (fun _ _ => by rw [hm, if_pos rfl])
    fun _ => by rw [hm, if_pos rfl]

theorem slowKept_linkFault {h : HostId} (f : LinkFault) (b : Byte) (s : State)
    (hc : (∃ b, c = .headerBadCheck h b) ∨ c = .transactionVoid h) : SlowKept c s (linkFault h f b s) := by
  refine ⟨fun _ => by simp, fun g => ⟨fun _ => by simp, fun _ => by simp, fun _ _ => by simp, fun _ _ => by simp,
    fun _ _ _ => by simp, fun hbad hvoid => ?_⟩⟩
  have hg : g ≠ h := fun he => hc.elim (fun ⟨b, hb⟩ => hbad b (he ▸ hb)) fun hv => hvoid (he ▸ hv)
  simp [linkFault, Table.read_update, hg]

theorem slowKept_effect {F : Prop} (he : Effect F c s t) (hc : c ≠ .deviceReset) : SlowKept c s t := by
  cases he with
  | links ht => exact .of_slow (slow_links ht)
  | judged => exact .of_slow (slow_judgeVote s)
  | @admitted h _ r =>
    refine .of_member (h := h) rfl rfl (fun g hg => ?_) (fun g hj => ?_) (fun _ => ?_) (absurd rfl) (absurd rfl) (absurd rfl)
    · simp [admitMember, Table.read_update, hg]
    · have hg : g ≠ h := fun he => hj (he ▸ rfl)
      simp [admitMember, Table.read_update, hg]
    · simp [admitMember]
  | departed _ n hd hf => exact slowKept_teardown n s hf hd
  | @setLease h =>
    exact .of_member (h := h) rfl rfl (fun g hg => by simp [Table.read_update, hg]) (fun _ _ => rfl) (fun _ => by simp)
      (fun _ _ => by simp) (fun _ hs => absurd rfl hs) fun _ => by simp
  | @setMask h =>
    exact .of_member (h := h) rfl rfl (fun g hg => by simp [Table.read_update, hg]) (fun _ _ => rfl)
      (fun hs => absurd rfl hs) (fun _ _ => by simp) (fun _ _ => by simp) fun _ => by simp
  | @setThreshold h _ b => exact slowKept_storeThreshold h b s
  | @setParams c g _ p hp =>
    refine ⟨fun hn => ?_, (SlowKept.refl c s).2⟩
    obtain ⟨h1, h2, h3, h4, h5⟩ := hn g
    simp [h1, h2, h3, h4, h5] at hp
  | renewed h => exact .of_slow (slow_renewLease h s)
  | responded h p => exact .of_slow (slow_respond h p s)
  | tookHead => exact .of_slow (slow_answerTakeHead _ _ _ s)
  | committedTake => exact .of_slow ((slow_commitTake _ _ _).trans (slow_closeTransaction _ s))
  | committedNotice p => exact .of_slow (by unfold commitFetchNotice; split <;> rfl)
  | committedCounter p => exact .of_slow (by unfold commitReadCounter; split <;> rfl)
  | voided => exact .of_slow ((by rw [voidRead_eq]; rfl : _ = _).trans (slow_closeTransaction _ s))
  | faulted f b hw => exact slowKept_linkFault f b s hw
  | closedChannel => exact .of_slow (slow_closeChannel _ s)
  | unsubscribed =>
    exact .of_slow (slow_of_quota (by simp) (by simp)
      (fun g => by rw [show ∀ i u, (freeSubscription i u).accounts = u.accounts by simp, removeEntries_quota]) (by simp))
  | began => exact .of_slow ((slow_startMessage _ _ _ _ _).trans (slow_of_tables (by simp) (by simp) (by simp) (by simp)))
  | put => exact .of_slow (slow_of_quota (by simp) (by simp) (appendBytes_quota _ _ s) (by simp))
  | @sealed _ m =>
    refine .of_slow (Eq.trans (b := (release m (sealMessage m s)).slow) (slow_of_tables ?_ ?_ ?_ ?_)
      ((slow_release m _).trans (slow_sealMessage m s))) <;> simp
  | aborted => exact .of_slow (slow_of_quota (by simp) (by simp) (abortMessage_quota _ s) (by simp))
  | skipped => exact .of_slow (slow_of_quota (by simp) (by simp) (removeEntry_quota _ _ s) (by simp))
  | reset => exact absurd rfl hc
  | _ => exact .of_slow (slow_of_tables (by simp) (by simp) (by simp) (by simp))

end

/-- Settles O3: each effect of a command writes at most the slow registers the command owns. -/
theorem slowRegistersHaveFewWriters : Obligations.SlowRegistersHaveFewWriters := fun _ s _ ht hc =>
  (exec_effects ht).keep (P := SlowKept _ s) (fun _ _ he hk => hk.trans (slowKept_effect he hc)) (.refl _ s)

end Sys2Proof.Machine
end


section
/-! SUPPORT. SET of a per-host parameter: its table, and the parameter stored with its effect (R158, R12). -/

namespace Sys2Proof.Machine

/-- A SET of a per-host parameter follows R158's table. -/
theorem ownerSetOwn_by_table (h : HostId) (inRange : Nat → Bool) (store : Word16 → State → State) (l : Link) (s : State) :
    ownerSetOwn h inRange store l s =
      match firstRefusal (setRefusals s h (inRange l.request.b.toNat) false) with
      | some c => refuse c s
      | none => accept (store l.request.b s) l.request.b := by
  simp only [ownerSetOwn, setRefusals, Bool.false_and]
  cases s.isJoined h
  · rfl
  cases inRange l.request.b.toNat <;> rfl

section
variable {s : State} {h : HostId} {i : Ident} {r : Request} {inRange : Nat → Bool} {store : Word16 → State → State}
  (hc : s.carriesSet h i r)
include hc

theorem endRequest_setOwn_refused {c : ResultCode}
    (hf : firstRefusal (setRefusals s h (inRange r.b.toNat) false) = some c) :
    endRequest h (isSetOf i) (ownerSetOwn h inRange store) s = .next (s.ended h c 0) := by
  have hw := isSetOf_of_carriesSet hc
  obtain ⟨⟨hr, -⟩, -⟩ := hc
  refine endRequest_refused hr hw ?_
  obtain ⟨-, -, -, rfl⟩ := hr
  rw [ownerSetOwn_by_table, setRefusals_closeTransaction, hf]
  rfl

theorem endRequest_setOwn_accepted (hs : ∀ b, IgnoresLinks (store b))
    (hf : firstRefusal (setRefusals s h (inRange r.b.toNat) false) = none) :
    endRequest h (isSetOf i) (ownerSetOwn h inRange store) s = .next (store r.b (s.ended h .ok r.b)) := by
  have hw := isSetOf_of_carriesSet hc
  obtain ⟨⟨hr, -⟩, -⟩ := hc
  refine endRequest_of_ignoresLinks (reply := { result := .ok, value := r.b }) hr hw (hs r.b) ?_
  obtain ⟨-, -, -, rfl⟩ := hr
  rw [ownerSetOwn_by_table, setRefusals_closeTransaction, hf]
  rfl

end

/-- A threshold at or below the credit of an exhausted host lifts its mark (R12). -/
theorem storeThreshold_eq (h : HostId) (b : Word16) (s : State) :
    storeThreshold h b s =
      if (s.accounts.read h).exhausted = true ∧ b.toNat ≤ s.credit h then
        { s with
          members := s.members.write h { s.members.read h with creditThreshold := b.toNat }
          accounts := s.accounts.write h { s.accounts.read h with exhausted := false }
          desks := s.desks.write h { s.desks.read h with latches := { (s.desks.read h).latches with credit := true } } }
      else { s with members := s.members.write h { s.members.read h with creditThreshold := b.toNat } } := rfl

theorem storeThreshold_ignoresLinks (h : HostId) (b : Word16) : IgnoresLinks (storeThreshold h b) := fun s L => by
  simp only [storeThreshold_eq]
  have hcredit : (s.withLinks L).credit h = s.credit h := rfl
  rw [hcredit]
  simp only [withLinks_frame]
  split <;> rfl

/-- Settles O25: each identifier by R158's table; a threshold stored judges the exhausted mark. -/
theorem setOwnParameter : Obligations.SetOwnParameter := by
  intro s h r
  refine ⟨fun hc => ⟨fun c hf => ?_, fun hf => ?_⟩, fun hc => ⟨fun c hf => ?_, fun hf => ?_⟩,
    fun hc => ⟨fun c hf => ?_, fun hf hstay => ?_, fun hf hlift => ?_⟩⟩
  · rw [exec, execSetLeasePeriod]
    exact endRequest_setOwn_refused hc hf
  · rw [exec, execSetLeasePeriod]
    exact endRequest_setOwn_accepted hc (fun _ _ _ => rfl) hf
  · rw [exec, execSetAttentionMask]
    exact endRequest_setOwn_refused hc hf
  · rw [exec, execSetAttentionMask]
    exact endRequest_setOwn_accepted hc (fun _ _ _ => rfl) hf
  · rw [exec, execSetCreditThreshold]
    exact endRequest_setOwn_refused hc hf
  · rw [exec, execSetCreditThreshold, endRequest_setOwn_accepted hc (storeThreshold_ignoresLinks h) hf, storeThreshold_eq]
    exact congrArg _ (if_neg hstay)
  · rw [exec, execSetCreditThreshold, endRequest_setOwn_accepted hc (storeThreshold_ignoresLinks h) hf, storeThreshold_eq]
    exact congrArg _ (if_pos hlift)

end Sys2Proof.Machine
end


section
/-! SUPPORT. PUT: its table, the charge of the cell it takes, and the append on the links' side (R67 to R69). -/

namespace Sys2Proof.Machine

/-! ## The table -/

theorem countInRange_eq_not (a : Word16) : countInRange a = !(a == 0 || decide (64 < a.toNat)) := by
  have hzero : a = 0 ↔ a.toNat = 0 := BitVec.toNat_inj.symm
  rw [Bool.eq_iff_iff, countInRange_eq_true_iff]
  simp only [Bool.not_eq_true', Bool.or_eq_false_iff, beq_eq_false_iff_ne, ne_eq, hzero, decide_eq_false_iff_not]
  omega

/-- Checks 1 to 3 as the model makes them (R67). -/
theorem putRefusals_eq (s : State) (h : HostId) (r : Request) :
    putRefusals s h r =
      [ (!s.isJoined h, .notJoined), (!countInRange r.a, .badRequest), (!(s.fillingOf h).isSome, .noMessage) ] := by
  rw [putRefusals, countInRange_eq_not, Bool.not_not, isFilling_eq]

theorem putRefusals_closeTransaction (s : State) (h : HostId) (r : Request) :
    putRefusals (closeTransaction h s) h r = putRefusals s h r := rfl

theorem putLimits_closeTransaction (s : State) (h : HostId) (m : MsgId) (n : Nat) :
    putLimits (closeTransaction h s) h m n = putLimits s h m n := rfl

/-- Checks 4 and 5 are the two that the model makes (R67, R68). -/
theorem putLimits_eq (s : State) (h : HostId) (m : MsgId) (n : Nat) :
    putLimits s h m n =
      [ (s.exceedsLength (s.messages.read m) n, .length),
        (s.lacksCells h (newCells (s.messages.read m).length n), .noCell) ] := by
  have hpos : ∀ k : Nat, (k != 0) = decide (0 < k) := fun k => by
    rw [Bool.eq_iff_iff]
    simp [Nat.pos_iff_ne_zero]
  rw [State.lacksCells, hpos]
  rfl

section
variable {s : State} {h : HostId} {m : MsgId} {l : Link}

theorem ownerPut_refused {c : ResultCode} (hf : firstRefusal (putRefusals s h l.request) = some c) :
    ownerPut h l s = refuse c s := by
  simp only [putRefusals_eq, firstRefusal] at hf
  unfold ownerPut
  cases hj : s.isJoined h
  · simp [hj] at hf
    simp [hf]
  cases hr : countInRange l.request.a
  · simp [hj, hr] at hf
    simp [hr, hf]
  cases hn : s.fillingOf h
  · simp [hj, hr, hn] at hf
    simp [hr, hf]
  · simp [hj, hr, hn] at hf

/-- What the first three checks of an accepted PUT establish. -/
theorem putRefusals_none {r : Request} (hf : firstRefusal (putRefusals s h r) = none) :
    s.isJoined h = true ∧ countInRange r.a = true := by
  rw [putRefusals_eq, firstRefusal_eq_none_iff] at hf
  have hj := hf (!s.isJoined h, .notJoined) (by simp)
  have hr := hf (!countInRange r.a, .badRequest) (by simp)
  exact ⟨by simpa using hj, by simpa using hr⟩

theorem ownerPut_limited {c : ResultCode} (hf : firstRefusal (putRefusals s h l.request) = none)
    (hm : s.fillingOf h = some m) (hl : firstRefusal (putLimits s h m l.request.a.toNat) = some c) :
    ownerPut h l s = (s, { result := c, value := word (s.messages.read m).length }) := by
  obtain ⟨hj, hr⟩ := putRefusals_none hf
  rw [putLimits_eq] at hl
  simp only [ownerPut, hj, hr, hm]
  cases he : s.exceedsLength (s.messages.read m) l.request.a.toNat
  · rw [firstRefusal_cons_false he] at hl
    cases hc : s.lacksCells h (newCells (s.messages.read m).length l.request.a.toNat)
    · rw [firstRefusal_cons_false hc] at hl
      cases hl
    · rw [firstRefusal_cons_true hc] at hl
      cases hl
      rfl
  · rw [firstRefusal_cons_true he] at hl
    cases hl
    rfl

/-- What the last two checks of an accepted PUT establish. -/
theorem putLimits_none {n : Nat} (hl : firstRefusal (putLimits s h m n) = none) :
    s.exceedsLength (s.messages.read m) n = false ∧ s.lacksCells h (newCells (s.messages.read m).length n) = false := by
  rw [putLimits_eq, firstRefusal_eq_none_iff] at hl
  exact ⟨hl _ List.mem_cons_self, hl _ (List.mem_cons_of_mem _ List.mem_cons_self)⟩

theorem ownerPut_accepted (hf : firstRefusal (putRefusals s h l.request) = none)
    (hm : s.fillingOf h = some m) (hl : firstRefusal (putLimits s h m l.request.a.toNat) = none) :
    ownerPut h l s =
      accept (appendBytes m l.payload s) (word ((s.messages.read m).length + l.request.a.toNat)) := by
  obtain ⟨hj, hr⟩ := putRefusals_none hf
  obtain ⟨he, hc⟩ := putLimits_none hl
  simp only [ownerPut, hj, hr, hm, he, hc]
  rfl

end

/-! ## The append and the links -/

theorem linkRun_ignoresLinks (run : List CellId) : IgnoresLinks (linkRun run) := fun s L => by
  induction run generalizing s with
  | nil => rfl
  | cons a rest ih =>
    cases rest with
    | nil => rfl
    | cons b rest => exact ih (s.modCell a fun c => { c with next := some b })

theorem attachRun_ignoresLinks (m : MsgId) (run : List CellId) : IgnoresLinks (attachRun m run) := fun s L => by
  cases run with
  | nil => rfl
  | cons c rest =>
    unfold attachRun
    simp only [withLinks_frame]
    split <;> rfl

theorem chargeCells_ignoresLinks (m : MsgId) (k : Nat) : IgnoresLinks (chargeCells m k) := fun s L => by
  have htake : takeCells k (s.withLinks L) = (takeCells k s).map fun x => (x.1, x.2.withLinks L) := by
    unfold takeCells
    have hfree : (s.withLinks L).freeCount = s.freeCount := rfl
    rw [hfree]
    split
    · exact congrArg some (Prod.ext rfl (linkRun_ignoresLinks _ { s with freeList := s.freeList.drop k } L))
    · rfl
  unfold chargeCells
  split
  · rfl
  rw [htake]
  cases takeCells k s with
  | none => rfl
  | some x =>
    exact ((attachRun_ignoresLinks m x.1).comp (reevaluate_ignoresLinks.comp (setCharge_ignoresLinks
      (x.2.messages.read m).publisher ((x.2.accounts.read (x.2.messages.read m).publisher).charge + k)))) x.2 L

theorem appendBytes_ignoresLinks (m : MsgId) (bytes : List Byte) : IgnoresLinks (appendBytes m bytes) := fun s L => by
  have hmessages : (s.withLinks L).messages = s.messages := rfl
  rw [appendBytes_eq, appendBytes_eq, hmessages, chargeCells_ignoresLinks]
  rfl

/-! ## The charge -/

/-- A charge of a JOINED host that moves its credit: the mark is judged (R8, R11). -/
theorem setCharge_judged {h : HostId} {c : Nat} {s : State} (hj : s.isJoined h = true)
    (hne : (s.accounts.read h).quota - c ≠ s.credit h) :
    let a := s.accounts.read h
    let mark := markAfter a.exhausted (a.quota - c) (s.members.read h).creditThreshold
    setCharge h c s =
      { s with
        accounts := s.accounts.write h { a with charge := c, exhausted := mark }
        desks := s.desks.write h ((s.desks.read h).signalled (a.exhausted && !mark) false) } := by
  intro a mark
  let u : State := { s with accounts := s.accounts.write h { a with charge := c } }
  have hu : u.accounts.read h = { a with charge := c } := Table.read_write_self _ _ _
  have hcredit : u.credit h = a.quota - c := by rw [State.credit, hu]; rfl
  have hset : setCharge h c s = judgeMark h u := by
    rw [setCharge_eq]
    exact if_pos ⟨hne, hj⟩
  rw [hset, judgeMark_eq, hu, hcredit]
  dsimp only [u, mark]
  by_cases h0 : a.quota - c = 0
  · cases hx : a.exhausted <;> simp [h0, markAfter, a]
  · have hb : (a.quota - c == 0) = false := beq_false_of_ne h0
    cases hx : a.exhausted
    · simp [h0, markAfter, hb]
    · by_cases hc : (s.members.read h).creditThreshold ≤ a.quota - c
      · simp [h0, hc, Nat.not_lt.2 hc, markAfter, hb, Desk.signalled]
      · simp [h0, hc, Nat.not_le.1 hc, markAfter]

/-- CREDIT and TURN latched one after the other. -/
theorem Desk.signalled_credit_turn (d : Desk) (a b : Bool) : (d.signalled a false).signalled false b = d.signalled a b := by
  simp [Desk.signalled]

/-- TURN latched on a condition. -/
theorem ite_turnLatched (b : Bool) (d : Desk) : (if b then d.turnLatched else d) = d.signalled false b := by
  cases b
  · exact (Desk.signalled_false d).symm
  · exact d.turnLatched_eq

/-- The cell an append takes is charged to the message's publisher, a JOINED host with credit left. -/
theorem charged_eq {m : MsgId} {s : State} {h : HostId} (hp : (s.messages.read m).publisher = h) (hj : s.isJoined h = true)
    (hq : (s.accounts.read h).charge + 1 ≤ (s.accounts.read h).quota) : ∃ d,
    let a := s.accounts.read h
    let mark := markAfter a.exhausted (a.quota - (a.charge + 1)) (s.members.read h).creditThreshold
    let rationed := rationedAfter s (s.freeList.length - 1)
    let ends := s.rationed && !rationed
    s.charged m = { s with
        freeList := s.freeList.tail, accounts := s.accounts.write h { a with charge := a.charge + 1, exhausted := mark }
        rationed := rationed, turn := if ends then .none else s.turn
        claimants := if ends then noHosts else s.claimants, desks := d }
      ∧ ∀ g, d.read g = (s.desks.read g).signalled (decide (g = h) && (a.exhausted && !mark))
          (ends && (s.claimants.read g || s.turn.isGrantedTo g)) := by
  have hne : (s.accounts.read h).quota - ((s.accounts.read h).charge + 1) ≠ s.credit h := by
    show _ ≠ (s.accounts.read h).quota - (s.accounts.read h).charge
    omega
  have hcharge := setCharge_judged (s := { s with freeList := s.freeList.tail }) hj hne
  obtain ⟨d, hd, hdesks⟩ := reevaluate_eq (setCharge h ((s.accounts.read h).charge + 1)
    { s with freeList := s.freeList.tail })
  rw [hcharge] at hd hdesks
  refine ⟨d, ?_, fun g => ?_⟩
  · rw [State.charged, hp, hcharge, hd]
    simp only [List.length_tail]
    rfl
  · rw [hdesks g, ite_turnLatched, List.length_tail]
    by_cases hg : g = h
    · subst hg
      simp only [Table.read_write_self, Desk.signalled_credit_turn, decide_true, Bool.true_and]
      rfl
    · simp only [Table.read_write_ne _ _ hg, hg, decide_false, Bool.false_and]
      rfl

end Sys2Proof.Machine
end


section
/-! SUPPORT. An accepted PUT, field by field: into the tail cell, or with the cell at the head of the free list (R69). -/

namespace Sys2Proof.Machine

section
variable {s : State} {h : HostId} {r : Request}

/-- What an accepted PUT leaves: the append, on the ended transaction. -/
theorem exec_put_accepted {m : MsgId} (hc : s.carries h .put r) (hf : firstRefusal (putRefusals s h r) = none)
    (hm : s.fillingOf h = some m) (hl : firstRefusal (putLimits s h m r.a.toNat) = none) :
    exec (.put h) s = .next ((appendBytes m (s.links.read h).payload s).withLinks
      (s.ended h .ok (word ((s.messages.read m).length + r.a.toNat))).links) := by
  obtain ⟨hc, hk⟩ := hc
  have hw : isKind .put r = true := by simp [isKind, hk]
  obtain ⟨hp, hrem, hv, rfl⟩ := id hc
  rw [← putRefusals_closeTransaction] at hf
  rw [← putLimits_closeTransaction] at hl
  have hmessages : (closeTransaction h s).messages = s.messages := by simp
  have ho := ownerPut_accepted hf (s := closeTransaction h s) hm hl
  rw [hmessages] at ho
  refine (endRequest_of_ignoresLinks (effect := appendBytes m (s.links.read h).payload) hc hw
    (appendBytes_ignoresLinks m _) ho).trans ?_
  rw [ended_eq_withLinks, appendBytes_ignoresLinks]
  rfl

theorem exec_put_refused {c : ResultCode} (hc : s.carries h .put r) (hf : firstRefusal (putRefusals s h r) = some c) :
    exec (.put h) s = .next (s.ended h c 0) := by
  obtain ⟨hc, hk⟩ := hc
  have hw : isKind .put r = true := by simp [isKind, hk]
  obtain ⟨hp, hrem, hv, rfl⟩ := id hc
  rw [← putRefusals_closeTransaction] at hf
  exact endRequest_refused hc hw (ownerPut_refused hf)

theorem exec_put_limited {m : MsgId} {c : ResultCode} (hc : s.carries h .put r)
    (hf : firstRefusal (putRefusals s h r) = none) (hm : s.fillingOf h = some m)
    (hl : firstRefusal (putLimits s h m r.a.toNat) = some c) :
    exec (.put h) s = .next (s.ended h c (word (s.messages.read m).length)) := by
  obtain ⟨hc, hk⟩ := hc
  have hw : isKind .put r = true := by simp [isKind, hk]
  obtain ⟨hp, hrem, hv, rfl⟩ := id hc
  rw [← putRefusals_closeTransaction] at hf
  rw [← putLimits_closeTransaction] at hl
  exact endRequest_refused hc hw (ownerPut_limited hf hm hl)

end

/-- The cells after an append that fits the tail cell. -/
theorem cells_within {s : State} {m : MsgId} {n : Nat} (hs : s.Stored) (hm : (s.messages.read m).isLive) (hn : 1 ≤ n)
    (j : CellId) : (fillTail s.cells n (s.messages.read m).tail).read j =
      if (s.messages.read m).tail = some j then { next := none, used := (n - 1) % 64 + 1 } else s.cells.read j := by
  obtain ⟨-, -, -, -, htail, -, hlast⟩ := hs.fits m hm
  rw [fillTail_read]
  split
  · next ht => rw [hlast j (htail.trans ht), tailUsed_eq hn]
  · rfl

/-- The cells after an append that takes the cell `c`. -/
theorem cells_beyond {s : State} {m : MsgId} {n : Nat} {c : CellId} (hs : s.Stored) (hm : (s.messages.read m).isLive)
    (hn : 1 ≤ n) (hc : c ∈ s.freeList) (j : CellId) :
    (fillTail (linkBehind s.cells c (s.messages.read m).tail) n (some c)).read j =
      if some c = some j then { next := none, used := (n - 1) % 64 + 1 }
      else if (s.messages.read m).tail = some j then { next := some c, used := 64 } else s.cells.read j := by
  obtain ⟨-, -, -, -, htail, -, -⟩ := hs.fits m hm
  rw [fillTail_read, linkBehind_read]
  split
  · next hj =>
    obtain rfl := Option.some.inj hj
    have ht : (s.messages.read m).tail ≠ some c := fun ht =>
      hs.free_disjoint hc m (List.mem_of_mem_getLast? (htail.trans ht))
    rw [if_neg ht, hs.blank c hc, tailUsed_eq hn]
    rfl
  · rfl

/-- What an append of `k` cells to host `h`'s message `m`, now of length `n`, leaves of a state (R3, R6, R8, R11, R69). -/
structure Appended (m : MsgId) (h : HostId) (bytes : List Byte) (n k : Nat) (s t : State) : Prop where
  freeList : t.freeList = s.freeList.drop k
  messages : t.messages = s.messages.write m
    { s.messages.read m with
      length := n, cellCount := (s.messages.read m).cellCount + k
      head := if k = 0 then (s.messages.read m).head else some ((s.messages.read m).head.getD (s.freeList.headD 0))
      tail := if k = 0 then (s.messages.read m).tail else s.freeList.head? }
  pool : t.pool = storeBytes (t.chainOf m) (s.messages.read m).length bytes s.pool
  cells : s.Stored → ∀ j, t.cells.read j =
    if (t.messages.read m).tail = some j then { next := none, used := (n - 1) % 64 + 1 }
    else if k ≠ 0 ∧ (s.messages.read m).tail = some j then { next := s.freeList.head?, used := 64 }
    else s.cells.read j
  accounts : t.accounts = s.accounts.write h
    { s.accounts.read h with
      charge := (s.accounts.read h).charge + k
      exhausted := if k = 0 then (s.accounts.read h).exhausted
        else markAfter (s.accounts.read h).exhausted ((s.accounts.read h).quota - ((s.accounts.read h).charge + k))
          (s.members.read h).creditThreshold }
  rationed : t.rationed = if k = 0 then s.rationed else rationedAfter s (s.freeList.length - k)
  turn : t.turn = if s.rationed = true ∧ t.rationed = false then .none else s.turn
  claimants : t.claimants = if s.rationed = true ∧ t.rationed = false then noHosts else s.claimants
  desks : ∀ g, t.desks.read g = (s.desks.read g).signalled
    ((s.accounts.read g).exhausted && !(t.accounts.read g).exhausted)
    (s.rationed && !t.rationed && (s.claimants.read g || s.turn.isGrantedTo g))

section
variable {s : State} {h : HostId} {m : MsgId} {bytes : List Byte}

theorem appended_within (hlive : (s.messages.read m).isLive) (hn : 1 ≤ (s.messages.read m).length + bytes.length)
    (hk : newCells (s.messages.read m).length bytes.length = 0) :
    Appended m h bytes ((s.messages.read m).length + bytes.length) 0 s (appendBytes m bytes s) := by
  have hnot : ¬ (s.rationed = true ∧ s.rationed = false) := by simp
  have ht := appendBytes_within hk
  rw [ht]
  constructor
  case freeList => rfl
  case messages => rfl
  case pool =>
    simp only [State.chainOf, Table.read_write_self, walk_fillTail]
  case cells =>
    intro hs j
    simpa only [Table.read_write_self, ne_eq, not_true_eq_false, false_and, if_false] using cells_within hs hlive hn j
  case accounts => exact (Table.write_read _ _).symm
  case rationed => rfl
  case turn => exact (if_neg hnot).symm
  case claimants => exact (if_neg hnot).symm
  case desks => simp

theorem appended_beyond {c : CellId} {rest : List CellId} (hf : s.freeList = c :: rest)
    (hpub : (s.messages.read m).publisher = h) (hj : s.isJoined h = true)
    (hq : (s.accounts.read h).charge + 1 ≤ (s.accounts.read h).quota)
    (hlive : (s.messages.read m).isLive) (hn : 1 ≤ (s.messages.read m).length + bytes.length)
    (hk : newCells (s.messages.read m).length bytes.length = 1) :
    Appended m h bytes ((s.messages.read m).length + bytes.length) 1 s (appendBytes m bytes s) := by
  obtain ⟨d, hcharged, hd⟩ := charged_eq hpub hj hq
  have ht := appendBytes_beyond hf hk
  rw [hcharged] at ht
  have hends : ∀ b : Bool, (s.rationed = true ∧ b = false) ↔ (s.rationed && !b) = true := by simp
  rw [ht]
  constructor
  case freeList => rw [List.drop_one]
  case messages =>
    simp [hf, Message.grown]
  case pool =>
    simp only [State.chainOf, Table.read_write_self, walk_fillTail]
    rfl
  case cells =>
    intro hs j
    have hcells := cells_beyond hs hlive hn (c := c) (by simp [hf]) j
    simpa [Message.grown, hf] using hcells
  case accounts => rfl
  case rationed => rfl
  case turn => exact if_congr (hends _).symm rfl rfl
  case claimants => exact if_congr (hends _).symm rfl rfl
  case desks =>
    intro g
    dsimp only
    rw [hd g]
    by_cases hg : g = h
    · subst hg
      simp
    · simp [hg, Table.read_write_ne _ _ hg]

end

/-- Settles O42: the table refuses as R67 says, and an accepted append needs no cell or one. -/
theorem putAppendsOrRefuses : Obligations.PutAppendsOrRefuses := by
  intro s h r hc
  refine ⟨fun c hf => exec_put_refused hc hf, fun m hf hm => ?_⟩
  intro x n k a
  refine ⟨fun c hl => exec_put_limited hc hf hm hl, fun hl hlen => ?_⟩
  have hlive := fillingOf_isLive hm
  have ht : Appended m h (s.links.read h).payload n k s (appendBytes m (s.links.read h).payload s) := by
    obtain ⟨hj, hr⟩ := putRefusals_none hf
    obtain ⟨hpos, hcount⟩ := (countInRange_eq_true_iff _).1 hr
    obtain ⟨-, hlacks⟩ := putLimits_none hl
    have hn : 1 ≤ x.length + r.a.toNat := by omega
    have hle := newCells_le_one (length := x.length) hcount
    have hk : k = newCells x.length r.a.toNat := rfl
    rw [hk]
    dsimp only [n]
    rw [← hlen] at hle hlacks hn ⊢
    obtain hk0 | hk1 : newCells x.length (s.links.read h).payload.length = 0
        ∨ newCells x.length (s.links.read h).payload.length = 1 := by omega
    · rw [hk0]
      exact appended_within hlive hn hk0
    · rw [hk1]
      rw [hk1] at hlacks
      simp only [State.lacksCells, State.freeCount] at hlacks
      cases hfl : s.freeList with
      | nil => simp [hfl] at hlacks
      | cons c rest =>
        refine appended_beyond hfl (fillingOf_some hm).2 hj ?_ hlive hn hk1
        simpa [hfl] using hlacks
  exact ⟨_, exec_put_accepted hc hf hm hl, rfl, ht.freeList, ht.messages, ht.pool,
    fun hstore => ht.cells ((storageLaw_iff s).1 hstore).1, ht.accounts, ht.rationed, ht.turn, ht.claimants, ht.desks,
    by simp [State.withLinks]⟩

end Sys2Proof.Machine
end


section
/-! SUPPORT. The bytes of a message as its readers read them, after a PUT (R5, R6, R71). -/

namespace Sys2Proof.Machine

/-! ## Bytes of the pool -/

theorem address_inj {c d : CellId} {i j : Nat} (hi : i < 64) (hj : j < 64) :
    Memory.address c i = Memory.address d j ↔ c = d ∧ i = j := by
  simp only [Memory.address, Config.cellBytes, Fin.ext_iff]
  omega

/-- One byte written at an offset of a chain, read at an offset of another chain. -/
theorem byteAt_write {pool : List Host.Cell} (hw : Memory.wf pool = true) (c : CellId) {i : Nat} (hi : i < 64) (b : Byte)
    (chain : List CellId) (k : Nat) :
    byteAt (Memory.write pool (Memory.address c i) b) chain k =
      if chain[k / 64]? = some c ∧ k % 64 = i then b else byteAt pool chain k := by
  have hk : k % 64 < 64 := Nat.mod_lt _ (by decide)
  unfold byteAt
  simp only [Config.cellBytes]
  cases hd : chain[k / 64]? with
  | none => simp
  | some d => simp only [Memory.read_write _ _ _ hw, address_inj hk hi, Option.some.injEq]

theorem storeBytes_cons {chain : List CellId} {k : Nat} {b : Byte} {bytes : List Byte} {pool : List Host.Cell} {c : CellId}
    (hc : chain[k / 64]? = some c) :
    storeBytes chain k (b :: bytes) pool =
      storeBytes chain (k + 1) bytes (Memory.write pool (Memory.address c (k % 64)) b) := by
  rw [storeBytes]
  simp only [Config.cellBytes, hc]

/-- What is stored along a chain is read along it, and the rest of the chain reads as before. -/
theorem byteAt_storeBytes {chain : List CellId} (hchain : chain.Nodup) (bytes : List Byte) {k : Nat}
    {pool : List Host.Cell} (hw : Memory.wf pool = true) (hroom : k + bytes.length ≤ 64 * chain.length) (j : Nat) :
    byteAt (storeBytes chain k bytes pool) chain j =
      if k ≤ j ∧ j < k + bytes.length then bytes.getD (j - k) 0 else byteAt pool chain j := by
  induction bytes generalizing k pool with
  | nil => exact (if_neg (by simp)).symm
  | cons b bytes ih =>
    rw [List.length_cons] at hroom
    obtain ⟨c, hc⟩ : ∃ c, chain[k / 64]? = some c := ⟨_, List.getElem?_eq_getElem (by omega)⟩
    have hk : k % 64 < 64 := Nat.mod_lt _ (by decide)
    rw [storeBytes_cons hc, ih (Memory.wf_write _ _ hw) (by omega), byteAt_write hw c hk]
    by_cases hj : j = k
    · subst hj
      simp [hc]
    · have hne : ¬ (chain[j / 64]? = some c ∧ j % 64 = k % 64) := fun ⟨hjc, hmod⟩ => by
        have hdiv : k / 64 = j / 64 := (List.getElem?_inj (by omega) hchain).1 (hc.trans hjc.symm)
        omega
      rw [if_neg hne, List.length_cons]
      by_cases hin : k + 1 ≤ j ∧ j < k + 1 + bytes.length
      · rw [if_pos hin, if_pos (by omega)]
        obtain ⟨i, rfl⟩ : ∃ i, j = k + (i + 1) := ⟨j - k - 1, by omega⟩
        rw [Nat.add_sub_cancel_left, List.getD_cons_succ, show k + (i + 1) - (k + 1) = i by omega]
      · rw [if_neg hin, if_neg (by omega)]

/-- What is stored along a chain is not read along one that shares no cell with it. -/
theorem byteAt_storeBytes_disjoint {chain other : List CellId} (hd : ∀ c ∈ other, c ∉ chain) (bytes : List Byte) {k : Nat}
    {pool : List Host.Cell} (hw : Memory.wf pool = true) (j : Nat) :
    byteAt (storeBytes chain k bytes pool) other j = byteAt pool other j := by
  induction bytes generalizing k pool with
  | nil => rfl
  | cons b bytes ih =>
    cases hc : chain[k / 64]? with
    | none =>
      rw [storeBytes]
      simp only [Config.cellBytes, hc]
    | some c =>
      rw [storeBytes_cons hc, ih (Memory.wf_write _ _ hw), byteAt_write hw c (Nat.mod_lt _ (by decide)), if_neg]
      exact fun h => hd c (List.mem_of_getElem? h.1) (List.mem_of_getElem? hc)

/-! ## The chains after an append -/

section
variable {s : State} {m : MsgId} {bytes : List Byte}

/-- The chain of the message goes on, by a cell or by none. -/
theorem chainOf_prefix_appendBytes (hs : s.Stored) (hm : (s.messages.read m).isLive) (hcount : bytes.length ≤ 64)
    (hfree : newCells (s.messages.read m).length bytes.length ≤ s.freeCount) :
    s.chainOf m <+: (appendBytes m bytes s).chainOf m := by
  have hle := newCells_le_one (length := (s.messages.read m).length) hcount
  obtain hn | hn : newCells (s.messages.read m).length bytes.length = 0
      ∨ newCells (s.messages.read m).length bytes.length = 1 := by omega
  · rw [appendBytes_within hn]
    simp only [State.chainOf, Table.read_write_self, walk_fillTail]
    exact List.prefix_rfl
  · cases hf : s.freeList with
    | nil => simp [State.freeCount, hf, hn] at hfree
    | cons c rest =>
      have hgrown : (appendBytes m bytes s).chainOf m = s.grownChain m c := by
        rw [appendBytes_beyond hf hn]
        simp only [State.chainOf, Table.read_write_self, walk_fillTail]
        rfl
      rw [hgrown, grownChain_eq hs hm hf]
      exact List.prefix_append _ _

/-- The chain of any other message stays. -/
theorem chainOf_appendBytes_ne (hs : s.Stored) (hm : (s.messages.read m).isLive) (hcount : bytes.length ≤ 64)
    (hfree : newCells (s.messages.read m).length bytes.length ≤ s.freeCount) {j : MsgId} (hj : j ≠ m) :
    (appendBytes m bytes s).chainOf j = s.chainOf j := by
  obtain ⟨-, -, -, -, htail, -, -⟩ := hs.fits m hm
  have hle := newCells_le_one (length := (s.messages.read m).length) hcount
  obtain hn | hn : newCells (s.messages.read m).length bytes.length = 0
      ∨ newCells (s.messages.read m).length bytes.length = 1 := by omega
  · rw [appendBytes_within hn]
    simp only [State.chainOf, Table.read_write_ne _ _ hj, walk_fillTail]
  · cases hf : s.freeList with
    | nil => simp [State.freeCount, hf, hn] at hfree
    | cons c rest =>
      rw [appendBytes_beyond hf hn]
      simp only [State.chainOf, Table.read_write_ne _ _ hj, walk_fillTail]
      refine walk_congr fun y hy => ?_
      rw [linkBehind_read, if_neg]
      exact fun ht => hs.chain_disjoint hj hy (List.mem_of_mem_getLast? (htail.trans ht))

theorem appendBytes_pool (m : MsgId) (bytes : List Byte) (s : State) : (appendBytes m bytes s).pool =
    storeBytes ((appendBytes m bytes s).chainOf m) (s.messages.read m).length bytes s.pool := by
  rw [appendBytes_eq]
  simp [State.chainOf, walk_fillTail]

/-- A list read off position by position. -/
theorem map_range_getD (l : List Byte) (d : Byte) : (List.range l.length).map (fun i => l.getD i d) = l := by
  refine List.ext_getElem (by simp) fun i hi _ => ?_
  rw [List.length_map, List.length_range] at hi
  simp [hi]

/-- An accepted append is read at the end of its message, and the rest of the message as before. -/
theorem readBytes_appendBytes_self (hs : s.Stored) (hw : Memory.wf s.pool = true) (hm : (s.messages.read m).isLive)
    (hbound : (s.messages.read m).length + bytes.length ≤ Config.maxMessage) (hpos : 1 ≤ bytes.length)
    (hcount : bytes.length ≤ 64) (hfree : newCells (s.messages.read m).length bytes.length ≤ s.freeCount) :
    (appendBytes m bytes s).readBytes m 0 ((s.messages.read m).length + bytes.length) =
      s.readBytes m 0 (s.messages.read m).length ++ bytes := by
  have hu := stored_appendBytes hs hm hbound hpos hcount hfree
  have hpre := chainOf_prefix_appendBytes hs hm hcount hfree
  obtain ⟨-, hold, hlen, -⟩ := hs.fits m hm
  obtain ⟨hd, tl, k, hmessages⟩ := appendBytes_messages m bytes s
  have hread : ((appendBytes m bytes s).messages.read m).isLive = true
      ∧ ((appendBytes m bytes s).messages.read m).length = (s.messages.read m).length + bytes.length := by
    rw [hmessages, Table.read_write_self]
    exact ⟨hm, rfl⟩
  obtain ⟨-, hnew, hlen', -⟩ := hu.fits m hread.1
  rw [hread.2] at hnew
  rw [cellsFor_eq] at hold hnew
  have hbyte := byteAt_storeBytes (hu.chain_nodup m) bytes (k := (s.messages.read m).length) hw (by omega)
  unfold State.readBytes
  rw [List.range_add, List.map_append, List.map_map, appendBytes_pool]
  congr 1
  · refine List.map_congr_left fun i hi => ?_
    rw [List.mem_range] at hi
    obtain ⟨rest, hrest⟩ := hpre
    rw [hbyte, if_neg (by omega), ← hrest]
    unfold byteAt
    rw [Config.cellBytes, List.getElem?_append_left (by omega)]
  · refine Eq.trans (List.map_congr_left fun i hi => ?_) (map_range_getD bytes 0)
    rw [List.mem_range] at hi
    rw [Function.comp_apply, hbyte, if_pos (by omega)]
    congr 1
    omega

/-- Any other message is read as before. -/
theorem readBytes_appendBytes_ne (hs : s.Stored) (hw : Memory.wf s.pool = true) (hm : (s.messages.read m).isLive)
    (hbound : (s.messages.read m).length + bytes.length ≤ Config.maxMessage) (hpos : 1 ≤ bytes.length)
    (hcount : bytes.length ≤ 64) (hfree : newCells (s.messages.read m).length bytes.length ≤ s.freeCount)
    {j : MsgId} (hj : j ≠ m) (o n : Nat) : (appendBytes m bytes s).readBytes j o n = s.readBytes j o n := by
  have hu := stored_appendBytes hs hm hbound hpos hcount hfree
  unfold State.readBytes
  rw [appendBytes_pool, chainOf_appendBytes_ne hs hm hcount hfree hj]
  refine List.map_congr_left fun i _ => byteAt_storeBytes_disjoint (fun c hc => ?_) bytes hw _
  rw [← chainOf_appendBytes_ne hs hm hcount hfree hj] at hc
  exact hu.chain_disjoint hj hc

end

/-- Settles O43: the framers' law gives the payload's length, the table the room for it, and the bytes follow. -/
theorem putBytesAreRead : Obligations.PutBytesAreRead := by
  intro s t h r m hstore hw hc hm hf hl ht
  obtain ⟨hs, hlink⟩ := (storageLaw_iff s).1 hstore
  obtain ⟨-, hr⟩ := putRefusals_none hf
  have hlen : (s.links.read h).payload.length = r.a.toNat := payload_length_of_carries hc.1 hc.2 hlink hr
  obtain ⟨hpos, hcount⟩ := (countInRange_eq_true_iff _).1 hr
  obtain ⟨hexceeds, hlacks⟩ := putLimits_none hl
  obtain ⟨hbound, hfree⟩ := put_bounds hexceeds hlacks
  rw [← hlen] at hpos hcount hbound hfree
  have hlive := fillingOf_isLive hm
  obtain ⟨hd, tl, k, hmessages⟩ := appendBytes_messages m (s.links.read h).payload s
  obtain rfl := next_eq_of_eq (exec_put_accepted hc hf hm hl) ht
  have hread : ∀ j o n, (State.withLinks (appendBytes m (s.links.read h).payload s)
      (s.ended h .ok (word ((s.messages.read m).length + r.a.toNat))).links).readBytes j o n =
        (appendBytes m (s.links.read h).payload s).readBytes j o n := fun _ _ _ => rfl
  simp only [hread, withLinks_frame, hmessages]
  refine ⟨?_, fun j hj _ => ?_⟩
  · rw [Table.read_write_self]
    exact readBytes_appendBytes_self hs hw hlive hbound hpos hcount hfree
  · rw [Table.read_write_ne _ _ hj]
    exact readBytes_appendBytes_ne hs hw hlive hbound hpos hcount hfree hj 0 _

end Sys2Proof.Machine
end


section
/-! SUPPORT. The parts of a close: one message aborted and its publisher told (R35), one subscription freed and its owner
told (R36), and what each of them leaves alone. -/

namespace Sys2Proof.Machine

/-! ## Notices posted -/

/-- Host `g` has been told `news`, in their order, where its queue had room for all of them (R168). -/
def Tells (g : HostId) (news : List Notice) (s t : State) : Prop :=
  (s.desks.read g).notices.length + news.length ≤ 16 →
    (t.desks.read g).notices = (s.desks.read g).notices ++ news ∧ (t.desks.read g).lost = (s.desks.read g).lost

section
variable {g : HostId} {s t u : State}

theorem Tells.trans {l k : List Notice} (hst : Tells g l s t) (htu : Tells g k t u) : Tells g (l ++ k) s u := fun hroom => by
  rw [List.length_append] at hroom
  obtain ⟨hn, hl⟩ := hst (by omega)
  obtain ⟨hn', hl'⟩ := htu (by rw [hn, List.length_append]; omega)
  exact ⟨by rw [hn', hn, List.append_assoc], hl'.trans hl⟩

theorem Tells.nil (hn : (t.desks.read g).notices = (s.desks.read g).notices)
    (hl : (t.desks.read g).lost = (s.desks.read g).lost) : Tells g [] s t := fun _ => ⟨by rw [hn, List.append_nil], hl⟩

theorem Tells.of_desks {l : List Notice} (hst : Tells g l s t) (hs : u.desks = s.desks) : Tells g l u t := by
  rwa [Tells, hs]

theorem post_desk (h g : HostId) (n : Notice) (s : State) : (post h n s).desks.read g =
    if g = h ∧ s.isJoined h = true then (s.desks.read g).posted n else s.desks.read g := by
  rw [post_eq]
  by_cases hj : s.isJoined h = true
  · by_cases hg : g = h
    · simp [hj, hg, State.setDesk]
    · simp [hj, hg, State.setDesk, Table.read_write]
  · rw [if_neg hj, if_neg fun h => hj h.2]

theorem tells_post (h : HostId) (n : Notice) (s : State) (hj : s.isJoined g = true) :
    Tells g (if h = g then [n] else []) s (post h n s) := by
  by_cases hg : h = g
  · subst hg
    intro hroom
    rw [if_pos rfl, List.length_singleton] at hroom
    rw [post_desk, if_pos ⟨rfl, hj⟩, if_pos rfl]
    exact ⟨if_pos (by omega), if_pos (by omega)⟩
  · have hd : (post h n s).desks.read g = s.desks.read g := by rw [post_desk, if_neg fun hh => hg hh.1.symm]
    rw [if_neg hg]
    exact .nil (by rw [hd]) (by rw [hd])

theorem post_counters (h : HostId) (n : Notice) (s : State) :
    ((post h n s).desks.read g).counters = (s.desks.read g).counters := by
  rw [post_desk]
  split <;> rfl

end

/-! ## A message aborted -/

/-- The record an abort leaves: ABORTED while an entry refers to a STREAMING message, and freed otherwise (R80). -/
def Message.afterAbort (x : Message) : Message :=
  if x.mode = .streaming ∧ 1 < x.refCount then { x with state := .aborted, refCount := x.refCount - 1 }
  else Message.vacant

/-- ABORTED one further. -/
def Counters.oneAbort (x : Counters) : Counters := { x with aborted := counted x.aborted }

section
variable {s : State} {m : MsgId}

theorem markAborted_self (s : State) (m : MsgId) : (s.markAborted m).messages.read m =
    { s.messages.read m with
      state := if (s.messages.read m).mode = .streaming then .aborted else (s.messages.read m).state } :=
  Table.read_write_self _ _ _

theorem abortMessage_self (hone : s.HeldAlone m) :
    (abortMessage m s).messages.read m = (s.messages.read m).afterAbort := by
  rw [abortMessage_messages, release_messages, Table.read_write_self, markAborted_self, Message.afterAbort]
  by_cases hmode : (s.messages.read m).mode = .streaming
  · by_cases hr : 1 < (s.messages.read m).refCount
    · have hne : (s.messages.read m).refCount - 1 ≠ 0 := by omega
      simp [hmode, hr, hne]
    · simp [hmode, hr, Nat.sub_eq_zero_of_le (Nat.not_lt.1 hr)]
  · simp [hmode, Nat.sub_eq_zero_of_le (hone hmode)]

theorem afterAbort_isLive (hone : s.HeldAlone m) :
    (s.messages.read m).afterAbort.isLive = decide (1 < (s.messages.read m).refCount) := by
  unfold Message.afterAbort
  by_cases hr : 1 < (s.messages.read m).refCount
  · have hmode : (s.messages.read m).mode = .streaming := by
      by_contra hmode
      have := hone hmode
      omega
    rw [if_pos ⟨hmode, hr⟩, decide_eq_true hr]
    rfl
  · rw [if_neg fun h => hr h.2, decide_eq_false hr]
    rfl

theorem afterAbort_channel {x : Message} (hl : x.afterAbort.isLive = true) : x.afterAbort.channel = x.channel := by
  unfold Message.afterAbort at hl ⊢
  split at hl
  · next hx => rw [if_pos hx]
  · cases hl

/-- An abort counts one live message less where it frees the message, and touches no other slot. -/
theorem abortMessage_channels (hopen : (s.channels.read (s.messages.read m).channel).state = .opened) (d : ChanId) :
    (abortMessage m s).channels.read d =
      if d = (s.messages.read m).channel ∧ (s.messages.read m).refCount ≤ 1 then
        { s.channels.read d with liveCount := (s.channels.read d).liveCount - 1 }
      else s.channels.read d := by
  have hrelease : (abortMessage m s).channels = (release m (s.markAborted m)).channels := by
    rw [abortMessage_eq]
    simp
  rw [hrelease, release_eq, markAborted_self]
  dsimp only
  have hchannels : (s.markAborted m).channels = s.channels := rfl
  by_cases hr : (s.messages.read m).refCount ≤ 1
  · rw [if_pos (by omega), (freed_freeMessage m _).channels, Table.read_write_self, hchannels]
    dsimp only
    by_cases hd : d = (s.messages.read m).channel
    · subst hd
      simp [hr, hopen]
    · simp [hd]
  · have hne : (s.messages.read m).refCount - 1 ≠ 0 := by omega
    simp [hne, hr, hchannels]

/-- No freeing hands the turn to anyone IN_USE (R112). -/
theorem release_inUse {g : HostId} {k : Nat} (ht : (release m s).turn = .inUse g k) : s.turn = .inUse g k := by
  rw [release_eq] at ht
  split at ht
  · rw [(freed_freeMessage m _).turn] at ht
    split at ht
    · cases ht
    · exact ht
  · exact ht

theorem turnEnded_inUse {g h : HostId} {k : Nat} (ht : (s.turnEnded h).turn = .inUse g k) : s.turn = .inUse g k := by
  unfold State.turnEnded at ht
  split at ht
  · split at ht
    · exact absurd ht (turnPassed_ne_inUse s g k)
    · exact ht
  · exact ht

/-- A turn that is IN_USE after an abort was so before, and not its publisher's (R77). -/
theorem abortMessage_inUse {g : HostId} {k : Nat} (ht : (abortMessage m s).turn = .inUse g k) :
    s.turn = .inUse g k ∧ (s.messages.read m).publisher ≠ g := by
  refine ⟨?_, fun hg => abortMessage_ne_inUse m s k (hg ▸ ht)⟩
  rw [abortMessage_eq, endTurnOf_eq_turnEnded] at ht
  have hcount : (countAbort (s.messages.read m).publisher (release m (s.markAborted m))).turn =
      (release m (s.markAborted m)).turn := by simp
  exact release_inUse (s := s.markAborted m) (hcount.symm.trans (turnEnded_inUse ht))

theorem closeAborted_closeAbort (s : State) (m : MsgId) : CloseAborted m s (closeAbort m s) :=
  ⟨abortMessage m s, aborted_abortMessage m s, post_eq _ _ _⟩

theorem closeAbort_counters (s : State) (m : MsgId) (g : HostId) : ((closeAbort m s).desks.read g).counters =
    if g = (s.messages.read m).publisher then (s.desks.read g).counters.oneAbort else (s.desks.read g).counters := by
  have hl := congrArg (fun x => x.2.2) (abortMessage_ledger m s g)
  rw [closeAbort, post_counters]
  refine hl.trans ?_
  split <;> rfl

theorem closeAbort_tells {g : HostId} (hj : s.isJoined g = true) : Tells g
    (if (s.messages.read m).publisher = g then [.messageAborted (s.messages.read m).key (s.messages.read m).sequence]
      else []) s (closeAbort m s) := by
  have hl := abortMessage_ledger m s g
  have habort : Tells g [] s (abortMessage m s) := by
    refine .nil ((congrArg Prod.fst hl).trans ?_) ((congrArg (fun x => x.2.1) hl).trans ?_) <;> split <;> rfl
  have hjoined : (abortMessage m s).isJoined g = true := by simpa [State.isJoined] using hj
  exact habort.trans (tells_post _ _ _ hjoined)

end

/-! ## A subscription freed -/

section
variable {s : State} {key : Word16} {i : SubId}

theorem closeUnsubscribed_closeSubscription (s : State) (key : Word16) (i : SubId) :
    CloseUnsubscribed key i s (closeSubscription key i s) :=
  ⟨freeSubscription i s, unsubscribed_freeSubscription i s, post_eq _ _ _⟩

theorem closeSubscription_counters (s : State) (key : Word16) (i : SubId) (g : HostId) :
    ((closeSubscription key i s).desks.read g).counters = (s.desks.read g).counters := post_counters _ _ _

theorem closeSubscription_tells {g : HostId} (hj : s.isJoined g = true) :
    Tells g (if (s.subs.read i).owner = g then [.channelClosed key i] else []) s (closeSubscription key i s) :=
  (tells_post _ _ (freeSubscription i s) hj).of_desks rfl

theorem closeSubscription_subs (s : State) (key : Word16) (i : SubId) :
    (closeSubscription key i s).subs = s.subs.write i Subscription.free := by
  simp [closeSubscription, freeSubscription_subs]

theorem closeSubscription_channels (s : State) (key : Word16) (i : SubId) (d : ChanId) :
    (closeSubscription key i s).channels.read d =
      if d = (s.subs.read i).channel then
        { s.channels.read d with subscriberCount := (s.channels.read d).subscriberCount - 1 }
      else s.channels.read d := by
  have hc : (closeSubscription key i s).channels = (freeSubscription i s).channels := by simp [closeSubscription]
  rw [hc]
  simp only [freeSubscription, State.modSub_channels, State.modChannel_channels, Table.read_update]
  split
  · next hd => rw [hd]
  · rfl

theorem closeSubscription_entries (s : State) (key : Word16) (i : SubId) (e : EntryId) :
    (closeSubscription key i s).entries.read e = (s.entries.read e).forget i := by
  simp [closeSubscription, freeSubscription]

end

end Sys2Proof.Machine
end


section
/-! SUPPORT. The stages of a close: what its aborts and its freed subscriptions leave, one after another (R35, R36). -/

namespace Sys2Proof.Machine

variable {s : State} {c : ChanId}

/-! ## The aborts -/

/-- What the aborts of a list of messages of an OPEN slot leave. -/
structure Aborts (c : ChanId) (l : List MsgId) (s t : State) : Prop where
  messages : ∀ m, t.messages.read m = if m ∈ l then (s.messages.read m).afterAbort else s.messages.read m
  slot : t.channels.read c = { s.channels.read c with liveCount := t.liveOn c }
  others : ∀ d, d ≠ c → t.channels.read d = s.channels.read d
  turn : ∀ g k, t.turn = .inUse g k → s.turn = .inUse g k ∧ ∀ m ∈ l, (s.messages.read m).publisher ≠ g
  counters : ∀ g, (t.desks.read g).counters =
    (l.filter fun m => (s.messages.read m).publisher == g).foldl (fun x _ => x.oneAbort) (s.desks.read g).counters
  tells : ∀ g, s.isJoined g = true → Tells g
    ((l.filter fun m => (s.messages.read m).publisher == g).map fun m =>
      .messageAborted (s.messages.read m).key (s.messages.read m).sequence) s t

/-- One abort keeps the live count of its slot right. -/
theorem closeAbort_slot {m : MsgId} (hlive : (s.messages.read m).isLive = true) (hc : (s.messages.read m).channel = c)
    (hone : s.HeldAlone m) (hopen : (s.channels.read c).state = .opened)
    (hcount : (s.channels.read c).liveCount = s.liveOn c) :
    (closeAbort m s).channels.read c = { s.channels.read c with liveCount := (closeAbort m s).liveOn c } := by
  have hchannels : (closeAbort m s).channels = (abortMessage m s).channels := by simp [closeAbort]
  have hmessages : (closeAbort m s).messages.read m = (s.messages.read m).afterAbort := by
    simp only [closeAbort, post_frame, abortMessage_self hone]
  have hx := countIf_exchange (fun k hk => closeAbort_message_ne s (k := k) (m := m) hk)
    fun x => x.isLive && x.channel == c
  have hafter := afterAbort_isLive hone
  have hstay : (s.messages.read m).afterAbort.isLive = true → ((s.messages.read m).afterAbort.channel == c) = true :=
      fun h => by
    rw [afterAbort_channel h, hc, beq_self_eq_true]
  have hold : (closeAbort m s).liveOn c + 1 = s.liveOn c + if 1 < (s.messages.read m).refCount then 1 else 0 := by
    unfold State.liveOn
    rw [hmessages, hlive, hc, beq_self_eq_true] at hx
    by_cases hr : 1 < (s.messages.read m).refCount
    · rw [decide_eq_true hr] at hafter
      rw [if_pos hr]
      simpa [hafter, hstay hafter] using hx
    · rw [decide_eq_false hr] at hafter
      rw [if_neg hr]
      simpa [hafter] using hx
  rw [hchannels, abortMessage_channels (hc ▸ hopen)]
  by_cases hr : (s.messages.read m).refCount ≤ 1
  · rw [if_pos ⟨hc.symm, hr⟩, hcount]
    have hone' : (s.liveOn c) - 1 = (closeAbort m s).liveOn c := by
      rw [if_neg (Nat.not_lt.2 hr)] at hold
      omega
    rw [hone']
  · rw [if_neg fun h => hr h.2]
    rw [if_pos (by omega)] at hold
    rw [show (closeAbort m s).liveOn c = (s.channels.read c).liveCount by omega]

theorem aborts_foldl {l : List MsgId} (hl : l.Nodup)
    (hm : ∀ m ∈ l, (s.messages.read m).isLive = true ∧ (s.messages.read m).channel = c ∧ s.HeldAlone m)
    (hopen : (s.channels.read c).state = .opened) (hcount : (s.channels.read c).liveCount = s.liveOn c) :
    Aborts c l s (l.foldl (fun s m => closeAbort m s) s) := by
  induction l generalizing s with
  | nil => exact ⟨fun _ => rfl, by rw [List.foldl_nil, ← hcount], fun _ _ => rfl, fun _ _ ht => ⟨ht, nofun⟩, fun _ => rfl,
      fun _ _ => .nil rfl rfl⟩
  | cons m l ih =>
    obtain ⟨hnot, hl⟩ := List.nodup_cons.1 hl
    obtain ⟨hlive, hc, hone⟩ := hm m List.mem_cons_self
    have hslot := closeAbort_slot hlive hc hone hopen hcount
    have hmessages : (closeAbort m s).messages.read m = (s.messages.read m).afterAbort := by
      simp only [closeAbort, post_frame, abortMessage_self hone]
    have hne : ∀ k ∈ l, k ≠ m := fun k hk he => hnot (he ▸ hk)
    have hsame : ∀ k ∈ l, (closeAbort m s).messages.read k = s.messages.read k := fun k hk =>
      closeAbort_message_ne s (hne k hk)
    have ht := ih hl (s := closeAbort m s) (fun k hk => by
      rw [State.HeldAlone, hsame k hk]
      exact hm k (.tail m hk)) (by rw [hslot]; exact hopen) (by rw [hslot])
    have hfilter : ∀ g, (l.filter fun k => ((closeAbort m s).messages.read k).publisher == g) =
        l.filter fun k => (s.messages.read k).publisher == g := fun g =>
      List.filter_congr fun k hk => by rw [hsame k hk]
    have hjoined : ∀ g, (closeAbort m s).isJoined g = s.isJoined g := fun g => by simp [State.isJoined, closeAbort]
    refine ⟨fun k => ?_, by rw [List.foldl_cons, ht.slot, hslot], fun d hd => ?_, fun g k hk => ?_, fun g => ?_,
      fun g hg => ?_⟩
    · rw [List.foldl_cons, ht.messages]
      by_cases hk : k ∈ l
      · rw [if_pos hk, if_pos (.tail m hk), hsame k hk]
      · by_cases hkm : k = m
        · rw [if_neg hk, hkm, hmessages, if_pos List.mem_cons_self]
        · rw [if_neg hk, closeAbort_message_ne s hkm, if_neg (by simp [hk, hkm])]
    · rw [List.foldl_cons, ht.others d hd]
      have hchannels : (closeAbort m s).channels = (abortMessage m s).channels := by simp [closeAbort]
      rw [hchannels, abortMessage_channels (hc ▸ hopen), if_neg fun h => hd (h.1.trans hc)]
    · obtain ⟨hturn, hpubs⟩ := ht.turn g k hk
      have hturn' : (closeAbort m s).turn = (abortMessage m s).turn := by simp [closeAbort]
      obtain ⟨hturn, hpub⟩ := abortMessage_inUse (hturn' ▸ hturn)
      refine ⟨hturn, fun k hk => ?_⟩
      obtain rfl | hk := List.mem_cons.1 hk
      · exact hpub
      · exact hsame k hk ▸ hpubs k hk
    · rw [List.foldl_cons, ht.counters g, hfilter, closeAbort_counters, List.filter_cons]
      by_cases hp : (s.messages.read m).publisher = g
      · simp [hp]
      · simp [hp, Ne.symm hp]
    · have htail := ht.tells g ((hjoined g).trans hg)
      rw [hfilter] at htail
      have hmap : ((l.filter fun k => (s.messages.read k).publisher == g).map fun k =>
          Notice.messageAborted ((closeAbort m s).messages.read k).key ((closeAbort m s).messages.read k).sequence) =
          (l.filter fun k => (s.messages.read k).publisher == g).map fun k =>
            .messageAborted (s.messages.read k).key (s.messages.read k).sequence :=
        List.map_congr_left fun k hk => by rw [hsame k (List.mem_of_mem_filter hk)]
      rw [hmap] at htail
      have hboth := (closeAbort_tells (m := m) hg).trans htail
      rw [List.foldl_cons, List.filter_cons]
      by_cases hp : (s.messages.read m).publisher = g
      · simpa [hp] using hboth
      · simpa [hp] using hboth

/-! ## The freed subscriptions -/

/-- An entry after the subscriptions of a list have been freed (R45). -/
def Entry.forgetAll (l : List SubId) (x : Entry) : Entry :=
  match x.subscription with
  | some i => if i ∈ l then { x with subscription := none } else x
  | none => x

theorem Entry.forgetAll_cons (i : SubId) (l : List SubId) (x : Entry) :
    x.forgetAll (i :: l) = (x.forget i).forgetAll l := by
  unfold Entry.forgetAll Entry.forget
  cases hs : x.subscription with
  | none => simp [hs]
  | some k =>
    by_cases hk : k = i
    · simp [hk]
    · simp [hk, hs]

/-- What the freeing of a list of subscriptions of one slot leaves. -/
structure Frees (key : Word16) (c : ChanId) (l : List SubId) (s t : State) : Prop where
  subs : ∀ i, t.subs.read i = if i ∈ l then Subscription.free else s.subs.read i
  slot : t.channels.read c = { s.channels.read c with subscriberCount := (s.channels.read c).subscriberCount - l.length }
  others : ∀ d, d ≠ c → t.channels.read d = s.channels.read d
  entries : ∀ e, t.entries.read e = (s.entries.read e).forgetAll l
  counters : ∀ g, (t.desks.read g).counters = (s.desks.read g).counters
  tells : ∀ g, s.isJoined g = true → Tells g
    ((l.filter fun i => (s.subs.read i).owner == g).map fun i => .channelClosed key i) s t

theorem frees_foldl (key : Word16) {l : List SubId} (hl : l.Nodup) (hi : ∀ i ∈ l, (s.subs.read i).channel = c) :
    Frees key c l s (l.foldl (fun t i => closeSubscription key i t) s) := by
  induction l generalizing s with
  | nil =>
    refine ⟨fun _ => rfl, rfl, fun _ _ => rfl, fun e => ?_, fun _ => rfl, fun _ _ => .nil rfl rfl⟩
    unfold Entry.forgetAll
    cases (s.entries.read e).subscription <;> rfl
  | cons i l ih =>
    obtain ⟨hnot, hl⟩ := List.nodup_cons.1 hl
    have hc := hi i List.mem_cons_self
    have hsame : ∀ k, k ≠ i → (closeSubscription key i s).subs.read k = s.subs.read k := fun k hk => by
      rw [closeSubscription_subs, Table.read_write_ne _ _ hk]
    have hne : ∀ k ∈ l, k ≠ i := fun k hk he => hnot (he ▸ hk)
    have ht := ih hl (s := closeSubscription key i s) fun k hk => by
      rw [hsame k (hne k hk)]
      exact hi k (.tail i hk)
    have hfilter : ∀ g, (l.filter fun k => ((closeSubscription key i s).subs.read k).owner == g) =
        l.filter fun k => (s.subs.read k).owner == g := fun g =>
      List.filter_congr fun k hk => by rw [hsame k (hne k hk)]
    have hjoined : ∀ g, (closeSubscription key i s).isJoined g = s.isJoined g := fun g => by
      simp [State.isJoined, closeSubscription]
    refine ⟨fun k => ?_, ?_, fun d hd => ?_, fun e => ?_, fun g => ?_, fun g hg => ?_⟩
    · rw [List.foldl_cons, ht.subs]
      by_cases hk : k ∈ l
      · rw [if_pos hk, if_pos (.tail i hk)]
      · by_cases hki : k = i
        · rw [if_neg hk, hki, closeSubscription_subs, Table.read_write_self, if_pos List.mem_cons_self]
        · rw [if_neg hk, hsame k hki, if_neg (by simp [hk, hki])]
    · rw [List.foldl_cons, ht.slot, closeSubscription_channels, if_pos hc.symm, List.length_cons]
      dsimp only
      congr 1
      omega
    · rw [List.foldl_cons, ht.others d hd, closeSubscription_channels, if_neg fun h => hd (h.trans hc)]
    · rw [List.foldl_cons, ht.entries, closeSubscription_entries, Entry.forgetAll_cons]
    · rw [List.foldl_cons, ht.counters, closeSubscription_counters]
    · have htail := ht.tells g ((hjoined g).trans hg)
      rw [hfilter] at htail
      have hboth := (closeSubscription_tells (key := key) (i := i) hg).trans htail
      rw [List.foldl_cons, List.filter_cons]
      by_cases hp : (s.subs.read i).owner = g
      · simpa [hp] using hboth
      · simpa [hp] using hboth

end Sys2Proof.Machine
end


section
/-! SUPPORT. CLOSE_CHANNEL: its table, and the close event whole (R34 to R37). -/

namespace Sys2Proof.Machine

/-! ## The table -/

/-- A CLOSE_CHANNEL in an orderly Channel Table is refused by its table, or closes the OPEN slot that holds its key. -/
theorem ownerCloseChannel_by_table (h : HostId) (l : Link) {s : State} (hl : channelTableLaw s) :
    (∃ c, firstRefusal (closeRefusals s h l.request) = some c ∧ ownerCloseChannel h l s = refuse c s)
      ∨ (firstRefusal (closeRefusals s h l.request) = none ∧ ∃ i, s.findKey l.request.key = some i
        ∧ (s.channels.read i).state = .opened
        ∧ ownerCloseChannel h l s =
          accept (closeChannel i s) (word ((closeChannel i s).channels.read i).liveCount)) := by
  simp only [closeRefusals, firstRefusal, ownerCloseChannel, Bool.and_assoc]
  cases s.isJoined h with
  | false => exact .inl ⟨.notJoined, by simp⟩
  | true =>
  by_cases hk : l.request.key = 0#16
  · exact .inl ⟨.badKey, by simp [hk]⟩
  cases hf : s.findKey l.request.key with
  | none => exact .inl ⟨.noChannel, by simp [hk, keyIs_of_none hf]⟩
  | some i =>
  simp only [keyIs_eq hl hf, any_holdsKey_eq hl hf]
  cases hs : (s.channels.read i).state with
  | closed => exact absurd hs (state_of_findKey hf)
  | draining => exact .inl ⟨.busy, by simp [hk]⟩
  | opened =>
  cases hp : (s.channels.read i).creator.isSome && (s.channels.read i).creator != some h with
  | true => exact .inl ⟨.notPermitted, by simp [hk]⟩
  | false => exact .inr ⟨by simp [hk], i, rfl, hs, by simp [hk]⟩

theorem closeRefusals_closeTransaction (h : HostId) (r : Request) (s : State) :
    closeRefusals (closeTransaction h s) h r = closeRefusals s h r := rfl

theorem closeAbort_ignoresLinks (m : MsgId) : IgnoresLinks (closeAbort m) := fun s L => by
  rw [closeAbort, abortMessage_ignoresLinks, post_ignoresLinks]
  rfl

theorem closeSubscription_ignoresLinks (key : Word16) (i : SubId) : IgnoresLinks (closeSubscription key i) := fun s L => by
  rw [closeSubscription, freeSubscription_ignoresLinks, post_ignoresLinks]
  rfl

theorem closeChannel_ignoresLinks (c : ChanId) : IgnoresLinks (closeChannel c) := fun s L => by
  have haborts : closeAborts c (s.withLinks L) = (closeAborts c s).withLinks L :=
    IgnoresLinks.foldl (f := fun s m => closeAbort m s) closeAbort_ignoresLinks _ s L
  have hsubs : ∀ u, closeSubscriptions c (State.withLinks u L) = (closeSubscriptions c u).withLinks L := fun u =>
    IgnoresLinks.foldl (f := fun t i => closeSubscription (u.channels.read c).key i t)
      (closeSubscription_ignoresLinks _) _ u L
  rw [closeChannel, haborts, hsubs]
  rfl

/-- What an accepted CLOSE_CHANNEL leaves: the close event, on the ended transaction. -/
theorem exec_closeChannel_accepted {s : State} {h : HostId} {r : Request} {c : ChanId} (hl : channelTableLaw s)
    (hc : s.carries h .closeChannel r) (hf : firstRefusal (closeRefusals s h r) = none) (hkey : s.holdsKey r.key c = true) :
    (s.channels.read c).state = .opened ∧ exec (.closeChannel h) s = .next ((closeChannel c s).withLinks
      (s.ended h .ok (word ((closeChannel c s).channels.read c).liveCount)).links) := by
  obtain ⟨hc, hk⟩ := hc
  have hw : isKind .closeChannel r = true := by simp [isKind, hk]
  obtain ⟨hp, hrem, hv, rfl⟩ := id hc
  obtain ⟨c', hf', -⟩ | ⟨-, i, hi, hopen, ho⟩ :=
    ownerCloseChannel_by_table h (s.links.read h) (channelTableLaw_closeTransaction (h := h) hl)
  · rw [closeRefusals_closeTransaction, hf] at hf'
    cases hf'
  · rw [findKey_closeTransaction, findKey_of_holdsKey hl hkey] at hi
    obtain rfl := Option.some.inj hi
    have hsame : closeChannel c (closeTransaction h s) = (closeChannel c s).withLinks (closeTransaction h s).links := by
      rw [closeTransaction_withLinks, closeChannel_ignoresLinks]
      rfl
    have hcount : ((closeChannel c (closeTransaction h s)).channels.read c).liveCount =
        ((closeChannel c s).channels.read c).liveCount := by
      rw [hsame]
      rfl
    rw [hcount] at ho
    refine ⟨by simpa using hopen, (endRequest_of_ignoresLinks (effect := closeChannel c) hc hw
      (closeChannel_ignoresLinks c) ho).trans ?_⟩
    rw [ended_eq_withLinks, closeChannel_ignoresLinks]
    rfl

theorem exec_closeChannel_refused {s : State} {h : HostId} {r : Request} {c : ResultCode} (hl : channelTableLaw s)
    (hc : s.carries h .closeChannel r) (hf : firstRefusal (closeRefusals s h r) = some c) :
    exec (.closeChannel h) s = .next (s.ended h c 0) := by
  obtain ⟨hc, hk⟩ := hc
  have hw : isKind .closeChannel r = true := by simp [isKind, hk]
  obtain ⟨hp, hrem, hv, rfl⟩ := id hc
  obtain ⟨c', hf', ho⟩ | ⟨hf', -⟩ :=
    ownerCloseChannel_by_table h (s.links.read h) (channelTableLaw_closeTransaction (h := h) hl)
  · rw [closeRefusals_closeTransaction, hf] at hf'
    obtain rfl := Option.some.inj hf'
    exact endRequest_refused hc hw ho
  · rw [closeRefusals_closeTransaction, hf] at hf'
    cases hf'

end Sys2Proof.Machine
end


section
/-! SUPPORT. The close event whole: the aborts, the freed subscriptions, and the slot they leave (R34 to R37). -/

namespace Sys2Proof.Machine

section
variable {s : State} {c : ChanId}

/-- The FILLING messages of a slot, in ascending record number. -/
def State.fillingOn (s : State) (c : ChanId) : List MsgId :=
  (List.finRange 128).filter fun m => (s.messages.read m).state == .filling && (s.messages.read m).channel == c

/-- The subscriptions of a slot, in ascending index. -/
def State.subscriptionsOn (s : State) (c : ChanId) : List SubId :=
  (List.finRange 64).filter fun i => (s.subs.read i).state != .free && (s.subs.read i).channel == c

theorem mem_fillingOn {m : MsgId} :
    m ∈ s.fillingOn c ↔ (s.messages.read m).state = .filling ∧ (s.messages.read m).channel = c := by
  simp [State.fillingOn]

theorem mem_subscriptionsOn {i : SubId} :
    i ∈ s.subscriptionsOn c ↔ (s.subs.read i).state ≠ .free ∧ (s.subs.read i).channel = c := by
  simp [State.subscriptionsOn]

theorem afterAbort_ne_filling (x : Message) : x.afterAbort.state ≠ .filling := by
  unfold Message.afterAbort
  split <;> nofun

/-- The aborts of a close (R35). -/
theorem aborts_closeAborts (hfill : fillingLaw s) (hopen : (s.channels.read c).state = .opened)
    (hcount : (s.channels.read c).liveCount = s.liveOn c) : Aborts c (s.fillingOn c) s (closeAborts c s) :=
  aborts_foldl ((List.nodup_finRange 128).filter _) (fun m hm => by
    obtain ⟨hf, hc⟩ := mem_fillingOn.1 hm
    exact ⟨Message.isLive_of_filling hf, hc, hfill.2 m hf⟩) hopen hcount

/-- What the aborts of a close leave alone. -/
theorem closeAborts_frame (c : ChanId) (s : State) :
    (closeAborts c s).subs = s.subs ∧ (closeAborts c s).entries = s.entries ∧ (closeAborts c s).queues = s.queues :=
  ⟨foldl_keeps State.subs _ _ _ (by simp [closeAbort]), foldl_keeps State.entries _ _ _ (by simp [closeAbort]),
    foldl_keeps State.queues _ _ _ (by simp [closeAbort])⟩

/-- What the freed subscriptions of a close leave alone. -/
theorem closeSubscriptions_frame (c : ChanId) (s : State) :
    (closeSubscriptions c s).messages = s.messages ∧ (closeSubscriptions c s).turn = s.turn
      ∧ (closeSubscriptions c s).queues = s.queues :=
  ⟨foldl_keeps State.messages _ _ _ (by simp [closeSubscription]),
    foldl_keeps State.turn _ _ _ (by simp [closeSubscription]),
    foldl_keeps State.queues _ _ _ (by simp [closeSubscription])⟩

/-- The freed subscriptions of a close (R36), after its aborts. -/
theorem frees_closeSubscriptions {u : State} {key : Word16} (hsubs : u.subs = s.subs)
    (hkey : (u.channels.read c).key = key) : Frees key c (s.subscriptionsOn c) u (closeSubscriptions c u) := by
  subst hkey
  have hlist : s.subscriptionsOn c = u.subscriptionsOn c := by rw [State.subscriptionsOn, State.subscriptionsOn, hsubs]
  rw [hlist]
  exact frees_foldl _ ((List.nodup_finRange 64).filter _) fun i hi => (mem_subscriptionsOn.1 hi).2

/-- A publisher has one FILLING message at most (R60). -/
theorem fillingOn_of_publisher (hfill : fillingLaw s) (c : ChanId) (g : HostId) :
    ((s.fillingOn c).filter fun m => (s.messages.read m).publisher == g) = []
      ∨ ∃ m, ((s.fillingOn c).filter fun m => (s.messages.read m).publisher == g) = [m] := by
  have hnodup : ((s.fillingOn c).filter fun m => (s.messages.read m).publisher == g).Nodup :=
    ((List.nodup_finRange 128).filter _).filter _
  have hmem : ∀ m ∈ (s.fillingOn c).filter fun m => (s.messages.read m).publisher == g,
      (s.messages.read m).state = .filling ∧ (s.messages.read m).publisher = g := fun m hm => by
    rw [List.mem_filter, mem_fillingOn, beq_iff_eq] at hm
    exact ⟨hm.1.1, hm.2⟩
  generalize (s.fillingOn c).filter (fun m => (s.messages.read m).publisher == g) = l at hnodup hmem
  cases l with
  | nil => exact .inl rfl
  | cons m l =>
    refine .inr ⟨m, congrArg (m :: ·) (List.eq_nil_iff_forall_not_mem.2 fun k hk => ?_)⟩
    obtain ⟨hfm, hpm⟩ := hmem m List.mem_cons_self
    obtain ⟨hfk, hpk⟩ := hmem k (.tail m hk)
    have hkm : k = m := (hfill.1 m hfm).2 k hfk (hpk.trans hpm.symm)
    exact (List.nodup_cons.1 hnodup).1 (hkm ▸ hk)

theorem chain_closeSubscriptions {u : State} {key : Word16} (hsubs : u.subs = s.subs)
    (hkey : (u.channels.read c).key = key) :
    Chain (CloseUnsubscribed key) (s.subscriptionsOn c) u (closeSubscriptions c u) := by
  subst hkey
  have hlist : s.subscriptionsOn c = u.subscriptionsOn c := by rw [State.subscriptionsOn, State.subscriptionsOn, hsubs]
  rw [hlist]
  exact chain_foldl (fun s i => closeUnsubscribed_closeSubscription s _ i) _ u

/-- The slot before the third step of a close (R37). -/
theorem closeSubscriptions_slot {u : State} {key : Word16} (hu : Aborts c (s.fillingOn c) s u)
    (hv : Frees key c (s.subscriptionsOn c) u (closeSubscriptions c u))
    (hsubscribers : (s.channels.read c).subscriberCount = s.subscribersOn c) :
    (closeSubscriptions c u).channels.read c =
      { s.channels.read c with liveCount := (closeSubscriptions c u).liveOn c, subscriberCount := 0 } := by
  have hlive : (closeSubscriptions c u).liveOn c = u.liveOn c := by
    rw [State.liveOn, (closeSubscriptions_frame c u).1]
    rfl
  have hnone : (s.channels.read c).subscriberCount - (s.subscriptionsOn c).length = 0 := by
    rw [hsubscribers]
    exact Nat.sub_self _
  rw [hv.slot, hu.slot, hlive, hnone]

/-- The third step of a close (R37), and the result of its request. -/
theorem closeChannel_left (s : State) (h : HostId) (hslot : (closeSubscriptions c (closeAborts c s)).channels.read c =
    { s.channels.read c with
      liveCount := (closeSubscriptions c (closeAborts c s)).liveOn c, subscriberCount := 0 }) :
    let v := closeSubscriptions c (closeAborts c s)
    let left := (List.finRange 128).filter fun m => (v.messages.read m).state != .vacant && (v.messages.read m).channel == c
    (closeChannel c s).withLinks (s.ended h .ok (word ((closeChannel c s).channels.read c).liveCount)).links =
      { v with
        channels := v.channels.write c (if left = [] then Channel.closed else
          { s.channels.read c with state := .draining, liveCount := left.length, subscriberCount := 0 })
        links := s.links.write h ((s.links.read h).ended .ok (BitVec.ofNat 16 left.length)) } := by
  intro v left
  have hlength : v.liveOn c = left.length := rfl
  have hafter : (v.channels.read c).afterClose = if left = [] then Channel.closed else
      { s.channels.read c with state := .draining, liveCount := left.length, subscriberCount := 0 } := by
    rw [hslot, Channel.afterClose]
    exact if_congr List.length_eq_zero_iff rfl rfl
  have hread : (closeChannel c s).channels.read c = (v.channels.read c).afterClose := Table.read_update_self _ _ _
  have hcount : ((closeChannel c s).channels.read c).liveCount = left.length := by
    rw [hread, hafter]
    split
    · next hl => rw [hl]; rfl
    · rfl
  rw [hcount, ← hafter]
  rfl

/-- What a close tells a host and counts for it (R35, R36). -/
theorem closeChannel_desk {key : Word16} (hfill : fillingLaw s) (hu : Aborts c (s.fillingOn c) s (closeAborts c s))
    (hv : Frees key c (s.subscriptionsOn c) (closeAborts c s) (closeSubscriptions c (closeAborts c s))) (g : HostId) :
    let mine := (s.fillingOn c).filter fun m => (s.messages.read m).publisher == g
    let own := (s.subscriptionsOn c).filter fun i => (s.subs.read i).owner == g
    let news : List Notice := mine.map (fun m => .messageAborted (s.messages.read m).key (s.messages.read m).sequence)
      ++ own.map fun i => .channelClosed key i
    ((closeChannel c s).desks.read g).counters =
        (if mine = [] then (s.desks.read g).counters else (s.desks.read g).counters.oneAbort)
      ∧ (s.isJoined g = true → Tells g news s (closeChannel c s)) := by
  intro mine own news
  have hdesks : (closeChannel c s).desks = (closeSubscriptions c (closeAborts c s)).desks := rfl
  obtain ⟨hsubs, -, -⟩ := closeAborts_frame c s
  refine ⟨?_, fun hj => ?_⟩
  · rw [hdesks, hv.counters, hu.counters]
    obtain hnil | ⟨m, hone⟩ := fillingOn_of_publisher hfill c g
    · rw [if_pos hnil, hnil]
      rfl
    · have hmine : mine = [m] := hone
      rw [hmine, if_neg (List.cons_ne_nil m []), hone]
      rfl
  · have hjoined : (closeAborts c s).isJoined g = true := by
      have hmembers : (closeAborts c s).members = s.members := foldl_keeps State.members _ _ _ (by simp [closeAbort])
      rwa [State.isJoined, hmembers]
    have htold := (hu.tells g hj).trans (hv.tells g hjoined)
    rw [hsubs] at htold
    exact htold

/-- What a close leaves alone beside the tables, the desks and the turn. -/
theorem closeChannel_frame (c : ChanId) (s : State) :
    (closeChannel c s).members = s.members ∧ (closeChannel c s).params = s.params ∧ (closeChannel c s).vote = s.vote
      ∧ (closeChannel c s).pool = s.pool ∧ (closeChannel c s).now = s.now
      ∧ (closeChannel c s).lastServed = s.lastServed
      ∧ ∀ g, ((closeChannel c s).accounts.read g).quota = (s.accounts.read g).quota := by
  have hslow := slow_closeChannel c s
  refine ⟨closeChannel_members c s, congrArg Prod.fst hslow, ?_, closeChannel_pool c s, ?_, ?_,
    congrFun (congrArg (fun x => x.2.2.1) hslow)⟩
  · exact (foldl_keeps State.vote _ _ _ (by simp [closeSubscription])).trans
      (foldl_keeps State.vote _ _ _ (by simp [closeAbort]))
  · exact (foldl_keeps State.now _ _ _ (by simp [closeSubscription])).trans
      (foldl_keeps State.now _ _ _ (by simp [closeAbort]))
  · exact (foldl_keeps State.lastServed _ _ _ (by simp [closeSubscription])).trans
      (foldl_keeps State.lastServed _ _ _ (by simp [closeAbort]))

/-- The tables and the turn after a close. -/
theorem closeChannel_tables {key : Word16} (hu : Aborts c (s.fillingOn c) s (closeAborts c s))
    (hv : Frees key c (s.subscriptionsOn c) (closeAborts c s) (closeSubscriptions c (closeAborts c s))) :
    (∀ m, (closeChannel c s).messages.read m =
        if m ∈ s.fillingOn c then (s.messages.read m).afterAbort else s.messages.read m)
      ∧ (∀ i, (closeChannel c s).subs.read i = if i ∈ s.subscriptionsOn c then Subscription.free else s.subs.read i)
      ∧ (∀ g k, (closeChannel c s).turn = .inUse g k → ∀ m ∈ s.fillingOn c, (s.messages.read m).publisher ≠ g)
      ∧ (closeChannel c s).queues = s.queues
      ∧ (∀ e, (closeChannel c s).entries.read e = (s.entries.read e).forgetAll (s.subscriptionsOn c))
      ∧ ∀ d, d ≠ c → (closeChannel c s).channels.read d = s.channels.read d := by
  obtain ⟨husubs, huentries, huqueues⟩ := closeAborts_frame c s
  obtain ⟨hvmessages, hvturn, hvqueues⟩ := closeSubscriptions_frame c (closeAborts c s)
  refine ⟨fun m => ?_, fun i => ?_, fun g k hk => (hu.turn g k (hvturn ▸ hk)).2, hvqueues.trans huqueues, fun e => ?_,
    fun d hd => ?_⟩
  · rw [← hu.messages, ← hvmessages]
    rfl
  · rw [← husubs, ← hv.subs]
    rfl
  · rw [← huentries, ← hv.entries]
    rfl
  · have hother : (closeChannel c s).channels.read d = (closeSubscriptions c (closeAborts c s)).channels.read d :=
      Table.read_update_ne _ _ hd
    exact hother.trans ((hv.others d hd).trans (hu.others d hd))

end

/-- Settles O33: the close event stage by stage; the live and subscriber counts are right before it, and so the slot is
what its third step makes of them. -/
theorem closeChannelAbortsFreesTells : Obligations.CloseChannelAbortsFreesTells := by
  intro s h r hl hc
  refine ⟨fun c hf => exec_closeChannel_refused hl hc hf, fun c hfill hseventh hsubscribers hf hkey => ?_⟩
  obtain ⟨hopen, hexec⟩ := exec_closeChannel_accepted hl hc hf hkey
  intro aborts frees
  have hu : Aborts c aborts s (closeAborts c s) := aborts_closeAborts hfill hopen (hseventh.2 c)
  obtain ⟨husubs, -, -⟩ := closeAborts_frame c s
  have hukey : ((closeAborts c s).channels.read c).key = (s.channels.read c).key := by rw [hu.slot]
  have hv : Frees (s.channels.read c).key c frees (closeAborts c s) (closeSubscriptions c (closeAborts c s)) :=
    frees_closeSubscriptions husubs hukey
  have hchainu : Chain CloseAborted aborts s (closeAborts c s) := chain_foldl closeAborted_closeAbort _ s
  have hchainv : Chain (CloseUnsubscribed (s.channels.read c).key) frees (closeAborts c s)
      (closeSubscriptions c (closeAborts c s)) := chain_closeSubscriptions husubs hukey
  have hleft := closeChannel_left s h (closeSubscriptions_slot hu hv hsubscribers)
  obtain ⟨hmessages, hsubs, hturn, hqueues, hentries, hchannels⟩ := closeChannel_tables hu hv
  have hdesk := closeChannel_desk hfill hu hv
  have hframe := closeChannel_frame c s
  clear hu hv hukey husubs
  generalize closeSubscriptions c (closeAborts c s) = v at hchainv hleft
  generalize closeAborts c s = u at hchainu hchainv
  generalize closeChannel c s = w at hexec hleft hmessages hsubs hturn hqueues hentries hchannels hdesk hframe
  refine ⟨u, v, _, hexec, hchainu, hchainv, hleft, fun m hm => (hmessages m).trans (if_pos hm),
    fun g d _ ⟨m, hm, hpub⟩ k hk => hturn g k hk m hm hpub, fun m hm hmc => ?_,
    fun i hi hs => (hsubs i).trans (if_pos (mem_subscriptionsOn.2 ⟨hs, hi⟩)),
    fun i hi => (hsubs i).trans (if_neg fun hm => hi (mem_subscriptionsOn.1 hm).2), hqueues,
    fun e => (hentries e).trans ?_, hchannels, fun m hm => (hmessages m).trans (if_neg fun hin => ?_), fun g => ?_, hframe⟩
  · have hread : ((w.messages.read m).state = .filling ∧ (w.messages.read m).channel = c) := ⟨hm, hmc⟩
    rw [hmessages m] at hread
    split at hread
    · exact afterAbort_ne_filling _ hread.1
    · next hin => exact hin (mem_fillingOn.2 hread)
  · unfold Entry.forgetAll
    cases (s.entries.read e).subscription with
    | none => rfl
    | some i => exact if_congr (mem_subscriptionsOn.trans and_comm) rfl rfl
  · obtain ⟨hfilling, hon⟩ := mem_fillingOn.1 hin
    exact hm.elim (fun hm => hm hfilling) fun hm => hm hon
  · intro mine own news
    have hmine : mine = (s.fillingOn c).filter fun m => (s.messages.read m).publisher == g := by
      rw [State.fillingOn, List.filter_filter]
      exact List.filter_congr fun m _ => Bool.and_comm _ _
    have hown : own = (s.subscriptionsOn c).filter fun i => (s.subs.read i).owner == g := by
      rw [State.subscriptionsOn, List.filter_filter]
      exact List.filter_congr fun i _ => Bool.and_comm _ _
    have hg := hdesk g
    dsimp only at hg
    rw [← hmine, ← hown] at hg
    exact hg

end Sys2Proof.Machine
end
